-- ==== Sys2Proof/Word.lean ====
section
/-! DEFINITION. The word types of FCQN (10_state.md R20, 30_encoding.md R50) and `NumTerm`, what a real-valued register holds. -/

namespace Sys2Proof

/-- A Q14 output word (30_encoding.md R51). -/
abbrev Word := BitVec 16

/-- One byte of TEXT, or of a word as the decoder reads it. -/
abbrev Byte := BitVec 8

/-- The STAGE register, FCQN's program counter (10_state.md R28). -/
abbrev StageCode := BitVec 4

/-- ERRCAUSE[3:0] (10_state.md R30). -/
abbrev CauseCode := BitVec 4

/-- HOSTCTL, the wires `{rst, start}`, rst the more significant (30_encoding.md R55). -/
abbrev HostCtl := BitVec 2

/-- What a register of type Num holds (00_scope.md R10). The spec leaves the arithmetic open, so a register holds the
FORMULA of its value, built from the fields of NUM in the order the rules write them; an instance of NUM says what the
formula is worth. DESIGN CHOICE, notes/assumptions/2.md. -/
inductive NumTerm where
  /-- `ofInt` of R10 (denominator 1), and the decimal or rational value a host presents; what it is worth, exactly or
  rounded, is for NUM to say. -/
  | lit (num : Int) (den : Nat)
  /-- The value that pattern number `pattern` on a Num port stands for; wholly a matter of NUM (R41: the bit-level form of
  a Num port is not fixed). NaN and the infinities, where NUM has them, are such patterns. -/
  | raw (pattern : Nat)
  | pi
  | add (a b : NumTerm)
  | sub (a b : NumTerm)
  | mul (a b : NumTerm)
  | div (a b : NumTerm)
  | neg (a : NumTerm)
  | sin (a : NumTerm)
  | cos (a : NumTerm)
  /-- The magnitude of the frequency response of 41_normalize.md R81 at the angle `w`. -/
  | gainmag (b0 b1 b2 a1 a2 w : NumTerm)
deriving DecidableEq, Repr, Inhabited

/-- `ofInt n` of R10: the value of the integer n. -/
def NumTerm.ofInt (n : Int) : NumTerm := .lit n 1

end Sys2Proof
end

