-- ==== Sys2Proof/Syntax.lean ====
section
/-! DEFINITION. The operations of FCQN, one constructor per row of spec/opcode_table.json, the index of the five
coefficients, and what a host program is made of (30_encoding.md R53, R55, R58, R65; 20_memory.md R41). -/

namespace Sys2Proof

/-- The ten stage operations and the two host operations with an encoding. None has an operand (30_encoding.md R63). -/
inductive Instr where
  | chk
  | drv
  | nrm
  | ugn
  | qb0
  | qb1
  | qb2
  | qa1
  | qa2
  | emit
  | reset
  | start
deriving DecidableEq, Repr

/-- Every operation, in the table's order. -/
def Instr.all : List Instr :=
  [.chk, .drv, .nrm, .ugn, .qb0, .qb1, .qb2, .qa1, .qa2, .emit, .reset, .start]

/-- The coefficient index 0..4 of 30_encoding.md R58. -/
inductive Coef where
  | b0
  | b1
  | b2
  | a1
  | a2
deriving DecidableEq, Repr

/-- The coefficients in the order B0, B1, B2, A1, A2. -/
def Coef.all : List Coef := [.b0, .b1, .b2, .a1, .a2]

/-- The number of a coefficient in the order of R58. -/
def Coef.idx : Coef → Nat
  | .b0 => 0
  | .b1 => 1
  | .b2 => 2
  | .a1 => 3
  | .a2 => 4

/-- What the host drives on FCQN's input ports (20_memory.md R41). -/
structure HostPorts where
  rst   : Bool
  start : Bool
  fsIn  : NumTerm
  f0In  : NumTerm
  qIn   : NumTerm
  ugIn  : Bool
deriving DecidableEq, Repr

/-- The output ports of 20_memory.md R41. -/
inductive Port where
  | q14 (i : Coef)
  | status
  | errcause
  | stage
  | nOut (i : Coef)
  | gOut
  | qeOut (i : Coef)
  | text
deriving DecidableEq, Repr

/-- A data port (44_host_interface.md R120): any but `status`, `errcause` and `stage`. -/
def Port.isData : Port → Bool
  | .status => false
  | .errcause => false
  | .stage => false
  | _ => true

/-- One turn of an agent (00_scope.md R17): the host samples its lines, the host reads a port, or the sequencer steps. -/
inductive Turn where
  | lines (w : HostPorts)
  | read (p : Port)
  | seq
deriving DecidableEq, Repr

end Sys2Proof
end

