-- ==== Sys2Proof/Config.lean ====
section
/-! DEFINITION. The parameters of FCQN: the constants the document fixes (00_scope.md R8) and the ones it leaves open (R9),
each an opaque constant, so that what is proved holds for every value of it. -/

namespace Sys2Proof

/-! ### Fixed by the document (R8) -/

/-- `FRAC`: fractional bits of a Q14 word. -/
def Config.frac : Nat := 14

/-- `SCALE` = 2^FRAC. -/
def Config.scale : Nat := 16384

/-- `QMIN`. -/
def Config.qmin : Int := -32768

/-- `QMAX`. -/
def Config.qmax : Int := 32767

/-! ### Left open by the document (R9) -/

/-- ROUND_TIE: what rounding does exactly halfway between two integers (R14). -/
inductive RoundTie where
  | halfEven
  | halfAway
  | halfUp
deriving DecidableEq, Repr, Inhabited

/-- Where the fractional part of a real lies against one half. -/
inductive Half where
  | below
  | tie
  | above
deriving DecidableEq, Repr, Inhabited

/-- A real number as rounding sees it: the greatest integer not above it, and where the rest lies. -/
structure Scaled where
  floor : Int
  rest  : Half
deriving DecidableEq, Repr, Inhabited

/-- A real as rounding sees it (R14). -/
noncomputable def Scaled.ofReal (v : ℝ) : Scaled where
  floor := ⌊v⌋
  rest := if Int.fract v < 1 / 2 then .below else if Int.fract v = 1 / 2 then .tie else .above

/-- NUM (R10). Its arithmetic fields (`ofInt`, `pi`, `add` to `cos`, `gainmag`) are the constructors of `NumTerm`; this
record says of the value of a formula what R10's table lists, and holds R10's meaning of each field as a law. Nothing else
of the arithmetic is assumed: a claim that needs more asks it by name. notes/assumptions/1.md and 3.md. -/
structure NUM where
  /-- The formula denotes a real number. -/
  finite : NumTerm → Bool
  lt     : NumTerm → NumTerm → Bool
  isZero : NumTerm → Bool
  /-- `val(a) * k`, exactly, as rounding sees it: what the machine needs of `val` (R14, R61, R90). -/
  scaled : NumTerm → Nat → Scaled
  /-- The real a finite value denotes; no operation of the machine reads it. -/
  val    : NumTerm → ℝ
  /-- The constants and words the machine itself forms are exact (R10; R63: "each is a constant of the hardware, exact"). -/
  ofInt_exact : ∀ n : Int, -32768 ≤ n → n ≤ 32767 → finite (.ofInt n) = true ∧ val (.ofInt n) = n
  /-- a < b, and false when either side is not finite. -/
  lt_iff : ∀ a b, lt a b = true ↔ finite a = true ∧ finite b = true ∧ val a < val b
  /-- a is exactly zero; a negative zero is zero, a value that is not finite is not (41_normalize.md R82). -/
  isZero_iff : ∀ a, isZero a = true ↔ finite a = true ∧ val a = 0
  scaled_eq : ∀ a k, finite a = true → scaled a k = Scaled.ofReal (val a * k)

/-- The NUM of a hardware: by R12 an instance other than EXACT is admitted only with its named properties, and two of them
(NUM_GAIN, NUM_A1) speak of a run on one FilterSpec, which is therefore valid in it. Of every other instance nothing of the
kind is known. notes/assumptions/3.md. -/
structure AdmittedNUM extends NUM where
  /-- The FilterSpec of NUM_GAIN and NUM_A1 (R12 (b), (c)): fs > 0 and f0 < fs/2. -/
  reference : lt (.ofInt 0) (.ofInt 1000000) = true ∧
    lt (.ofInt 30000) (.div (.ofInt 1000000) (.ofInt 2)) = true

/-- See `NUM.base`. -/
def NUM.baseInt : NumTerm → Int
  | .lit n 1 => n
  | .div a _ => if NUM.baseInt a = 0 then 0 else 1000000
  | _ => 0

/-- A record that meets the laws, no hardware's: it shows that there is one, which `opaque` asks. -/
def NUM.base : AdmittedNUM where
  finite _ := true
  lt a b := decide (NUM.baseInt a < NUM.baseInt b)
  isZero a := decide (NUM.baseInt a = 0)
  scaled a k := ⟨NUM.baseInt a * k, .below⟩
  val a := NUM.baseInt a
  ofInt_exact _ _ _ := ⟨rfl, rfl⟩
  lt_iff a b := by simp
  isZero_iff a := by simp
  scaled_eq a k _ := by
    have h : ((NUM.baseInt a : ℝ)) * (k : ℝ) = ((NUM.baseInt a * k : Int) : ℝ) := by push_cast; rfl
    simp only [Scaled.ofReal, h, Int.floor_intCast, Int.fract_intCast]
    norm_num
  reference := by decide

/-- Everything a step depends on beside the state: NUM, ROUND_TIE and the free words of 42_quantize.md R96. -/
structure Params where
  num      : NUM
  tie      : RoundTie
  freeWord : Nat → Word

/-- The hardware's NUM. OPEN (R9, R10): nothing is known of it but the laws of `AdmittedNUM`. (The argument says only that the
type has an element.) notes/assumptions/1.md. -/
opaque Config.openNum [Inhabited AdmittedNUM] : AdmittedNUM

/-- The hardware's NUM. -/
def Config.num : NUM := (@Config.openNum ⟨NUM.base⟩).toNUM

/-- R12: the hardware's NUM can run the reference FilterSpec. -/
theorem Config.num_reference : Config.num.lt (.ofInt 0) (.ofInt 1000000) = true ∧
    Config.num.lt (.ofInt 30000) (.div (.ofInt 1000000) (.ofInt 2)) = true := (@Config.openNum ⟨NUM.base⟩).reference

/-- The hardware's ROUND_TIE. OPEN (R9, R14). notes/assumptions/4.md. -/
opaque Config.roundTie : RoundTie

/-- The n-th word drawn where a value that is not finite is quantized (42_quantize.md R96). notes/assumptions/10.md. -/
opaque Config.freeWord : Nat → Word

/-- Clock cycles an operation takes beyond the first. OPEN (R9, 70_reset_and_hazards.md R158). -/
opaque Config.extraLatency : Instr → Nat

/-- STAGE_LATENCY, a positive integer per operation; no rule reads it (R158). notes/assumptions/15.md. -/
def Config.stageLatency (i : Instr) : Nat := Config.extraLatency i + 1

/-- The parameters of the hardware. -/
def Config.hw : Params where
  num := Config.num
  tie := Config.roundTie
  freeWord := Config.freeWord

end Sys2Proof
end

