-- ==== Sys2Proof/WellFormed.lean ====
section
/-! DEFINITION. Well-formedness. The operations have no operand field, so every one is well formed (30_encoding.md R63,
R64). What can be ill formed is a value presented on a Num port and a host program. -/

namespace Sys2Proof

/-- No operation has a field to check (30_encoding.md R63). -/
def Instr.wf (_ : Instr) : Bool := true

/-- A value is well formed when every literal in it has a nonzero denominator. -/
def NumTerm.wf : NumTerm → Bool
  | .lit _ den => den != 0
  | .raw _ => true
  | .pi => true
  | .add a b => a.wf && b.wf
  | .sub a b => a.wf && b.wf
  | .mul a b => a.wf && b.wf
  | .div a b => a.wf && b.wf
  | .neg a => a.wf
  | .sin a => a.wf
  | .cos a => a.wf
  | .gainmag b0 b1 b2 a1 a2 w => b0.wf && b1.wf && b2.wf && a1.wf && a2.wf && w.wf

/-- The four FilterSpec ports carry well-formed values. -/
def HostPorts.wf (w : HostPorts) : Bool := w.fsIn.wf && w.f0In.wf && w.qIn.wf

/-- A turn is well formed when the values it drives are. -/
def Turn.wf : Turn → Bool
  | .lines w => w.wf
  | .read _ => true
  | .seq => true

/-- The host's first request is RESET (70_reset_and_hazards.md R152: apply RESET once after power-up). -/
def beginsWithReset : List Turn → Bool
  | [] => true
  | .lines w :: rest => if w.rst then true else if w.start then false else beginsWithReset rest
  | .read _ :: _ => false
  | .seq :: rest => beginsWithReset rest

/-- A host program (30_encoding.md R65): well-formed turns, RESET first. -/
def wfProgram (p : List Turn) : Bool := p.all Turn.wf && beginsWithReset p

end Sys2Proof
end

