-- ==== Sys2Proof/Decode.lean ====
section
/-! DEFINITION. The decoder and the encoder: the opcode map of 30_encoding.md R53 and R55 as a list of rows. The two formats
STAGE (4 bits) and HOSTCTL (2 bits) are different encoded objects and share code values, so a word is read in a format. -/

namespace Sys2Proof

/-- The two formats of the opcode table (30_encoding.md R50). -/
inductive Format where
  | stage
  | hostctl
deriving DecidableEq, Repr

/-- The bits a format has (R50). -/
def Format.width : Format → Nat
  | .stage => 4
  | .hostctl => 2

/-- Why a word is no operation. -/
inductive Reject where
  /-- There is no byte to read. -/
  | noBytes
  /-- A bit above the format's width is set. -/
  | strayBits
  /-- STAGE code IDLE, DONE or ERR: a resting state, no operation (R53). -/
  | restingState
  /-- STAGE code 1100, 1101 or 1110: reserved (R54). -/
  | reservedStage
  /-- HOSTCTL 00: no request (R55). -/
  | noRequest
deriving DecidableEq, Repr

/-- The STAGE codes of the resting states (R53). -/
def Stage.idle : StageCode := 0b0000#4
/-- The STAGE code of DONE. -/
def Stage.done : StageCode := 0b1011#4
/-- The STAGE code of ERR. -/
def Stage.err : StageCode := 0b1111#4
/-- The STAGE code of CHK. -/
def Stage.chk : StageCode := 0b0001#4
/-- The STAGE code of DRV. -/
def Stage.drv : StageCode := 0b0010#4
/-- The STAGE code of NRM. -/
def Stage.nrm : StageCode := 0b0011#4
/-- The STAGE code of UGN. -/
def Stage.ugn : StageCode := 0b0100#4
/-- The STAGE code of QB0. -/
def Stage.qb0 : StageCode := 0b0101#4
/-- The STAGE code of QB1. -/
def Stage.qb1 : StageCode := 0b0110#4
/-- The STAGE code of QB2. -/
def Stage.qb2 : StageCode := 0b0111#4
/-- The STAGE code of QA1. -/
def Stage.qa1 : StageCode := 0b1000#4
/-- The STAGE code of QA2. -/
def Stage.qa2 : StageCode := 0b1001#4
/-- The STAGE code of EMIT. -/
def Stage.emit : StageCode := 0b1010#4

/-- A resting code: IDLE, DONE or ERR (R53). -/
def Stage.resting (c : StageCode) : Bool := c == Stage.idle || c == Stage.done || c == Stage.err

/-- A reserved code: 1100, 1101 or 1110 (R54). -/
def Stage.reserved (c : StageCode) : Bool := c == 0b1100#4 || c == 0b1101#4 || c == 0b1110#4

/-- A row of the opcode map: a word of the format is this operation when its bits under `mask` are `pat`. -/
structure OpRow where
  fmt   : Format
  mask  : Byte
  pat   : Byte
  instr : Instr
deriving DecidableEq, Repr

/-- The opcode map (R53, R55). -/
def opRows : List OpRow :=
  [ ⟨.stage, 0xF#8, 0b0001#8, .chk⟩,
    ⟨.stage, 0xF#8, 0b0010#8, .drv⟩,
    ⟨.stage, 0xF#8, 0b0011#8, .nrm⟩,
    ⟨.stage, 0xF#8, 0b0100#8, .ugn⟩,
    ⟨.stage, 0xF#8, 0b0101#8, .qb0⟩,
    ⟨.stage, 0xF#8, 0b0110#8, .qb1⟩,
    ⟨.stage, 0xF#8, 0b0111#8, .qb2⟩,
    ⟨.stage, 0xF#8, 0b1000#8, .qa1⟩,
    ⟨.stage, 0xF#8, 0b1001#8, .qa2⟩,
    ⟨.stage, 0xF#8, 0b1010#8, .emit⟩,
    ⟨.hostctl, 0b10#8, 0b10#8, .reset⟩,
    ⟨.hostctl, 0b11#8, 0b01#8, .start⟩ ]

/-- The name of the rejection of a word that no row takes. -/
def rejectOf (f : Format) (b : Byte) : Reject :=
  match f with
  | .hostctl => .noRequest
  | .stage => if Stage.resting (b.setWidth 4) then .restingState else .reservedStage

/-- Decode one word of a format, held in the low bits of a byte. -/
def decodeWord (f : Format) (b : Byte) : Except Reject Instr :=
  if b.toNat < 2 ^ f.width then
    match opRows.find? (fun r => r.fmt == f && b &&& r.mask == r.pat) with
    | some r => .ok r.instr
    | none => .error (rejectOf f b)
  else .error .strayBits

/-- Decode the first word of a list of bytes; the rest of the list is given back. -/
def decode (f : Format) : List Byte → Except Reject (Instr × List Byte)
  | [] => .error .noBytes
  | b :: rest =>
    match decodeWord f b with
    | .ok i => .ok (i, rest)
    | .error e => .error e

/-- What a STAGE code asks of the sequencer (44_host_interface.md R115). -/
inductive StageMeaning where
  | op (i : Instr)
  | resting
  | stuck
deriving DecidableEq, Repr

/-- The sequencer's reading of STAGE. -/
def stageMeaning (c : StageCode) : StageMeaning :=
  match decodeWord .stage (c.setWidth 8) with
  | .ok i => .op i
  | .error .restingState => .resting
  | .error _ => .stuck

/-- The host request on the lines, if there is one (30_encoding.md R55). -/
def hostRequest (c : HostCtl) : Option Instr :=
  match decodeWord .hostctl (c.setWidth 8) with
  | .ok i => some i
  | .error _ => none

/-! ### The encoder -/

/-- The format of an operation. -/
def Instr.format : Instr → Format
  | .reset => .hostctl
  | .start => .hostctl
  | _ => .stage

/-- The word of an operation (R53, R55). RESET is `1x`; the encoder leaves its start line low. -/
def encodeWord : Instr → Byte
  | .chk => 0b0001#8
  | .drv => 0b0010#8
  | .nrm => 0b0011#8
  | .ugn => 0b0100#8
  | .qb0 => 0b0101#8
  | .qb1 => 0b0110#8
  | .qb2 => 0b0111#8
  | .qa1 => 0b1000#8
  | .qa2 => 0b1001#8
  | .emit => 0b1010#8
  | .reset => 0b10#8
  | .start => 0b01#8

/-- The words of an operation: always one. -/
def encode (i : Instr) : List Byte := [encodeWord i]

/-! ### The opcode table's words -/

/-- The format a table word of `nbits` bits is read in. The table gives STAGE words 4 bits and HOSTCTL words 2; of a word
padded to a whole byte the table no longer says which, and it is read as STAGE. notes/assumptions/12.md. -/
def formatOfBits (nbits : Nat) : Format := if nbits ≤ 2 then .hostctl else .stage

/-- A table word as the byte it lies in. -/
def tableBytes (nbits w : Nat) : List Byte := [BitVec.ofNat 8 (w % 2 ^ nbits)]

/-- The operation the decoder reads from an opcode-table word. -/
def decodeTableWord (nbits w : Nat) : Option Instr :=
  match decode (formatOfBits nbits) (tableBytes nbits w) with
  | .ok (i, _) => some i
  | .error _ => none

end Sys2Proof
end

