-- ==== Sys2Proof/Machine/State.lean ====
section
/-! DEFINITION. The state of FCQN (10_state.md R20), the reasons a step can stop, and the state after RESET (R36). -/

namespace Sys2Proof.Machine

/-- One thing per coefficient, in the order of 30_encoding.md R58. -/
structure PerCoef (α : Type) where
  b0 : α
  b1 : α
  b2 : α
  a1 : α
  a2 : α
deriving DecidableEq, Repr

/-- The nine flags of STATUS (10_state.md R29). -/
structure Status where
  busy  : Bool
  done  : Bool
  err   : Bool
  degen : Bool
  sat   : PerCoef Bool
deriving DecidableEq, Repr

/-- The data registers that can be unwritten (10_state.md R32), by name. -/
inductive Reg where
  | fs
  | f0
  | qf
  | w0
  | alpha
  | b0
  | b1
  | b2
  | a0
  | a1
  | a2
  | n (i : Coef)
  | g
  | q14 (i : Coef)
  | qe (i : Coef)
deriving DecidableEq, Repr

/-- The state. A data register is `none` while it is unwritten, which is the spec's own state of it (R32), not zero. -/
structure State where
  /-- FS, F0, QF: the input latches (R21). -/
  fs : Option NumTerm
  f0 : Option NumTerm
  qf : Option NumTerm
  /-- UG (R22). -/
  ug : Bool
  /-- W0 and ALPHA (R23). -/
  w0 : Option NumTerm
  alpha : Option NumTerm
  /-- The analog coefficients (R24). -/
  b0 : Option NumTerm
  b1 : Option NumTerm
  b2 : Option NumTerm
  a0 : Option NumTerm
  a1 : Option NumTerm
  a2 : Option NumTerm
  /-- N[0..4] (R25). -/
  n : PerCoef (Option NumTerm)
  /-- G (R26). -/
  g : Option NumTerm
  /-- Q14[0..4] (R27). -/
  q14 : PerCoef (Option Word)
  /-- QE[0..4] (R31). -/
  qe : PerCoef (Option NumTerm)
  /-- STAGE (R28). -/
  stage : StageCode
  /-- STATUS (R29). -/
  status : Status
  /-- ERRCAUSE (R30). -/
  errcause : CauseCode
  /-- TEXT (R33): "empty when unwritten", so the empty string is its state of holding no value (R32); `textValue`. -/
  text : List Byte
  /-- What the host last drove on the input ports (20_memory.md R41). -/
  wires : HostPorts
  /-- The agents' turns to come, the next one first; none left means the sequencer's turn. The model's own field. -/
  turns : List Turn
  /-- How many free words have been drawn (42_quantize.md R96). The model's own field. -/
  draws : Nat
deriving DecidableEq, Repr

/-- Why the machine stops with a fault. -/
inductive Fault where
  /-- Raised by an operation that reads a register holding no value (00_scope.md R16, R18; 10_state.md R32). Safe: the
  spec makes such a read a fault of the model. -/
  | unwritten (r : Reg)
  /-- Raised by the sequencer's turn when STAGE holds a reserved code (30_encoding.md R54: stuck). Safe. -/
  | stuckStage (c : StageCode)
  /-- Raised by a host read of a port that has no defined value (44_host_interface.md R120). Safe. -/
  | portUndefined (p : Port)
deriving DecidableEq, Repr

/-- Why the model gives a step no meaning. -/
inductive Refusal where
  /-- An operation that has no meaning yet; no arm of exec answers with it. Safe. -/
  | notModelled (mnemonic : String)
  /-- DRV where FS, F0, QF do not pass the tests of CHK (40_validate_derive.md R74: no meaning outside them). Safe. -/
  | invalidFilterSpec
deriving DecidableEq, Repr

/-- What an operation answers. -/
abbrev Res := Host.Outcome State Fault Refusal

/-- The same thing for each coefficient. -/
def PerCoef.all {α : Type} (x : α) : PerCoef α := ⟨x, x, x, x, x⟩

/-- All nine flags 0. -/
def Status.zero : Status where
  busy := false
  done := false
  err := false
  degen := false
  sat := PerCoef.all false

/-- What is on the input ports before the host has driven them: no request, and values that nothing is known of.
DESIGN CHOICE, notes/assumptions/6.md. -/
def undriven : HostPorts where
  rst := false
  start := false
  fsIn := .raw 0
  f0In := .raw 0
  qIn := .raw 0
  ugIn := false

/-- The state after RESET: the table of 10_state.md R36. The last three fields are no registers of the block; their values
are a DESIGN CHOICE, notes/assumptions/6.md, 7.md and 10.md. -/
def State.reset : State where
  fs := none
  f0 := none
  qf := none
  ug := false
  w0 := none
  alpha := none
  b0 := none
  b1 := none
  b2 := none
  a0 := none
  a1 := none
  a2 := none
  n := PerCoef.all none
  g := none
  q14 := PerCoef.all none
  qe := PerCoef.all none
  stage := Stage.idle
  status := Status.zero
  errcause := 0#4
  text := []
  wires := undriven
  turns := []
  draws := 0

end Sys2Proof.Machine
end

