-- ==== Sys2Proof/Machine/Numerics.lean ====
section
/-! DEFINITION. The rounding of 00_scope.md R14. Every other question about a value of type Num is a field of NUM. -/

namespace Sys2Proof.Machine

/-- `round_t(v)` of R14: the nearest integer; at a tie, `k + 1/2` with k = `v.floor`, what ROUND_TIE says. -/
def roundTie (t : RoundTie) (v : Scaled) : Int :=
  match v.rest with
  | .below => v.floor
  | .above => v.floor + 1
  | .tie =>
    match t with
    | .halfEven => if v.floor % 2 = 0 then v.floor else v.floor + 1
    | .halfAway => if 0 ≤ v.floor then v.floor + 1 else v.floor
    | .halfUp => v.floor + 1

end Sys2Proof.Machine
end

