-- ==== Sys2Proof/Machine/Operands.lean ====
section
/-! DEFINITION. Operands: registers by coefficient index (00_scope.md R16), reading a register that may be unwritten
(10_state.md R32), the Q14 word (30_encoding.md R51, R52) and the functions of the quantizer (42_quantize.md R90 to R93). -/

namespace Sys2Proof.Machine

/-- `x[i]`. -/
def PerCoef.get {α : Type} (x : PerCoef α) : Coef → α
  | .b0 => x.b0
  | .b1 => x.b1
  | .b2 => x.b2
  | .a1 => x.a1
  | .a2 => x.a2

/-- `x[i] <- v`. -/
def PerCoef.set {α : Type} (x : PerCoef α) (i : Coef) (v : α) : PerCoef α :=
  match i with
  | .b0 => { x with b0 := v }
  | .b1 => { x with b1 := v }
  | .b2 => { x with b2 := v }
  | .a1 => { x with a1 := v }
  | .a2 => { x with a2 := v }

/-- The same function on each of the five. -/
def PerCoef.map {α β : Type} (f : α → β) (x : PerCoef α) : PerCoef β :=
  ⟨f x.b0, f x.b1, f x.b2, f x.a1, f x.a2⟩

/-- Read register `r`, which holds `v`: no value is a fault, as R32 says: "a read of it by a stage operation or by the host
is a fault of the model" (also R16, R18; 92_eei_decisions.md D10, 93_implementation_defined.md U7). -/
def need {α : Type} (r : Reg) (v : Option α) (k : α → Res) : Res :=
  match v with
  | some x => k x
  | none => .fault (.unwritten r)

/-- Read all five registers of a group, in the order of R58. -/
def needAll {α : Type} (r : Coef → Reg) (v : PerCoef (Option α)) (k : PerCoef α → Res) : Res :=
  need (r .b0) v.b0 fun x0 => need (r .b1) v.b1 fun x1 => need (r .b2) v.b2 fun x2 =>
    need (r .a1) v.a1 fun x3 => need (r .a2) v.a2 fun x4 => k ⟨x0, x1, x2, x3, x4⟩

/-! ### The Q14 word -/

/-- `enc16(n)`: n mod 2^16 (R52). -/
def enc16 (n : Int) : Word := BitVec.ofInt 16 n

/-- `dec16(p)`: the signed integer of the pattern (R52). -/
def dec16 (p : Word) : Int := if p.toNat < 2 ^ 15 then p.toNat else (p.toNat : Int) - 2 ^ 16

/-- `clamp(r, lo, hi)` (42_quantize.md R91). -/
def clamp (r lo hi : Int) : Int := if r < lo then lo else if r > hi then hi else r

/-- Clamp a rounded value to the Q14 range; the flag says whether that changed it (R90, R94). -/
def clampQ14 (r : Int) : Int × Bool :=
  (clamp r Config.qmin Config.qmax, clamp r Config.qmin Config.qmax != r)

/-- `quantize(x)` for a finite x: the integer and its saturation flag (R90). -/
def quantize (P : Params) (x : NumTerm) : Int × Bool :=
  clampQ14 (roundTie P.tie (P.num.scaled x Config.scale))

/-- `dequantize(n)` as a Num (R92): `div(ofInt n, ofInt 16384)`. -/
def dequantize (n : Int) : NumTerm := .div (NumTerm.ofInt n) (NumTerm.ofInt Config.scale)

/-- `qerr(x, q)`: the ideal minus the realized value, after the clamp (R93). -/
def qerr (x : NumTerm) (q : Int) : NumTerm := .sub x (dequantize q)

end Sys2Proof.Machine
end

