-- ==== Sys2Proof/Machine/Flags.lean ====
section
/-! DEFINITION. Flags: STATUS as the host reads it (30_encoding.md R56), ERRCAUSE (R57), and every computation that sets
one (the tests of CHK, 40_validate_derive.md R70). -/

namespace Sys2Proof.Machine

/-- A flag as a bit. -/
def flagBit (b : Bool) (k : Nat) : Nat := if b then 2 ^ k else 0

/-- STATUSWORD (R56): BUSY 0, DONE 1, ERR 2, DEGEN 3, SAT[0..4] 4 to 8; bits 15 to 9 read as 0. -/
def statusWord (f : Status) : BitVec 16 :=
  BitVec.ofNat 16
    (flagBit f.busy 0 + flagBit f.done 1 + flagBit f.err 2 + flagBit f.degen 3 + flagBit f.sat.b0 4 + flagBit f.sat.b1 5
      + flagBit f.sat.b2 6 + flagBit f.sat.a1 7 + flagBit f.sat.a2 8)

/-- CAUSE (R57): C_FS 0, C_F0 1, C_NYQ 2, C_Q 3. -/
def causeWord (cFs cF0 cNyq cQ : Bool) : CauseCode :=
  BitVec.ofNat 4 (flagBit cFs 0 + flagBit cF0 1 + flagBit cNyq 2 + flagBit cQ 3)

/-! ### The four tests of CHK (R70), each evaluated always -/

/-- A positive finite number. -/
def isPositive (M : NUM) (x : NumTerm) : Bool := M.finite x && M.lt (NumTerm.ofInt 0) x

/-- fs > 0. -/
def okFs (M : NUM) (fs : NumTerm) : Bool := isPositive M fs

/-- 0 < f0. -/
def okF0 (M : NUM) (f0 : NumTerm) : Bool := isPositive M f0

/-- f0 < fs/2. -/
def okNyq (M : NUM) (fs f0 : NumTerm) : Bool :=
  M.finite fs && M.finite f0 && M.lt f0 (.div fs (NumTerm.ofInt 2))

/-- Q > 0. -/
def okQ (M : NUM) (q : NumTerm) : Bool := isPositive M q

/-- The FilterSpec is valid (R70): all four tests hold. -/
def filterSpecOk (M : NUM) (fs f0 q : NumTerm) : Bool := okFs M fs && okF0 M f0 && okNyq M fs f0 && okQ M q

/-- The cause bits: the union of the tests that failed (60_exceptions.md R132, R134). -/
def causeOf (M : NUM) (fs f0 q : NumTerm) : CauseCode :=
  causeWord (!okFs M fs) (!okF0 M f0) (!okNyq M fs f0) (!okQ M q)

/-- STATUS as START leaves it (44_host_interface.md R117): BUSY alone. -/
def Status.running : Status := { Status.zero with busy := true }

end Sys2Proof.Machine
end

