-- ==== Sys2Proof/Machine/Ops.lean ====
section
/-! DEFINITION. The shared operations on the state: the three events (60_exceptions.md R130), writing a quantized
coefficient, clearing the registers. FCQN has no memory (20_memory.md R40) and no return from an event (R138). -/

namespace Sys2Proof.Machine

/-- ParameterRangeError: entry (60_exceptions.md R131). ERRCAUSE takes the causes, ERR is set, BUSY cleared, STAGE is ERR;
nothing is saved, because nothing is resumed. -/
def raiseParameterRangeError (cause : CauseCode) (s : State) : State :=
  { s with errcause := cause, status := { s.status with err := true, busy := false }, stage := Stage.err }

/-- DegenerateGainWarning (R136): sets DEGEN and nothing else. -/
def raiseDegenerateGainWarning (s : State) : State := { s with status := { s.status with degen := true } }

/-- SAT[i] <- b; with b = 1 this is SaturationWarning(i) (R135), which sets SAT[i] and nothing else. -/
def writeSat (i : Coef) (b : Bool) (s : State) : State :=
  { s with status := { s.status with sat := s.status.sat.set i b } }

/-- The writes of a quantize operation (42_quantize.md section 2): the word, its error, its flag, the next stage. -/
def writeQuantized (i : Coef) (x : NumTerm) (q : Int) (sat : Bool) (next : StageCode) (s : State) : State :=
  writeSat i sat
    { s with q14 := s.q14.set i (some (enc16 q)), qe := s.qe.set i (some (qerr x q)), stage := next }

/-- The next free word (R96): `draw([-32768, 32767])` is the integer of a word nothing is known of. -/
def drawnWord (P : Params) (s : State) : Int := dec16 (P.freeWord s.draws)

/-- One free word has been used up. -/
def countDraw (s : State) : State := { s with draws := s.draws + 1 }

/-- A quantize operation (42_quantize.md section 2, common pseudocode): coefficient `i`, successor `next`. -/
def quantizeOp (P : Params) (i : Coef) (next : StageCode) (s : State) : Res :=
  need (.n i) (s.n.get i) fun x =>
    if P.num.finite x then
      .next (writeQuantized i x (quantize P x).1 (quantize P x).2 next s)
    else
      .next (countDraw (writeQuantized i x (drawnWord P s) true next s))

/-- Every register at its reset value (10_state.md R36). What is no register of the block stays: the wires are the host's,
the turns are still to come, and free words already drawn are not drawn again. -/
def resetRegisters (s : State) : State :=
  { State.reset with wires := s.wires, turns := s.turns, draws := s.draws }

/-- The writes of START (44_host_interface.md R117): the latches take the ports, STATUS is BUSY alone, every other data
register is unwritten, TEXT empty, STAGE is CHK. -/
def beginRun (s : State) : State :=
  { resetRegisters s with
    fs := some s.wires.fsIn
    f0 := some s.wires.f0In
    qf := some s.wires.qIn
    ug := s.wires.ugIn
    status := Status.running
    stage := Stage.chk }

end Sys2Proof.Machine
end

