-- ==== Sys2Proof/Machine/Design.lean ====
section
/-! DEFINITION. CHK and DRV (40_validate_derive.md). Each operation is written over the parameters of 00_scope.md R9
(`…Op P`); its meaning in the machine is that operation at the hardware's own (`Config.hw`). -/

namespace Sys2Proof.Machine

/-- CHK (R70): a valid FilterSpec goes on to DRV; any other takes the ParameterRangeError entry. Operands are read in the
order of the rule's Operands line: DESIGN CHOICE, notes/assumptions/5.md. -/
def chkOp (P : Params) (s : State) : Res :=
  need .fs s.fs fun fs => need .f0 s.f0 fun f0 => need .qf s.qf fun q =>
    if filterSpecOk P.num fs f0 q then .next { s with stage := Stage.drv }
    else .next (raiseParameterRangeError (causeOf P.num fs f0 q) s)

/-- `((2*pi)*f0)/fs`, in the order of R72. -/
def w0Formula (fs f0 : NumTerm) : NumTerm := .div (.mul (.mul (NumTerm.ofInt 2) .pi) f0) fs

/-- `sin(w0)/(2*Q)` (R71). -/
def alphaFormula (w0 q : NumTerm) : NumTerm := .div (.sin w0) (.mul (NumTerm.ofInt 2) q)

/-- The writes of DRV (R71): W0, ALPHA and the six analog coefficients. -/
def writeAnalog (fs f0 q : NumTerm) (s : State) : State :=
  let w0 := w0Formula fs f0
  let alpha := alphaFormula w0 q
  { s with
    w0 := some w0
    alpha := some alpha
    b0 := some alpha
    b1 := some (NumTerm.ofInt 0)
    b2 := some (.neg alpha)
    a0 := some (.add (NumTerm.ofInt 1) alpha)
    a1 := some (.neg (.mul (NumTerm.ofInt 2) (.cos w0)))
    a2 := some (.sub (NumTerm.ofInt 1) alpha)
    stage := Stage.nrm }

/-- DRV (R71). It has the precondition of R70 and no meaning outside it (R74): there it is refused. Operands are read in
the order of the rule's Operands line: DESIGN CHOICE, notes/assumptions/5.md. -/
def drvOp (P : Params) (s : State) : Res :=
  need .fs s.fs fun fs => need .f0 s.f0 fun f0 => need .qf s.qf fun q =>
    if filterSpecOk P.num fs f0 q then .next (writeAnalog fs f0 q s) else .refused .invalidFilterSpec

/-- CHK. -/
def execChk (s : State) : Res := chkOp Config.hw s

/-- DRV. -/
def execDrv (s : State) : Res := drvOp Config.hw s

end Sys2Proof.Machine
end

