-- ==== Sys2Proof/Machine/Text.lean ====
section
/-! DEFINITION. The text encodings (30_encoding.md R59 to R62) and TEXT (43_emit.md R105). -/

namespace Sys2Proof.Machine

/-- The ASCII bytes of a string, in reading order (20_memory.md R42). -/
def ascii (s : String) : List Byte := s.toList.map fun c => BitVec.ofNat 8 c.toNat

/-- Line feed, 0x0A. -/
def lineFeed : List Byte := [0x0A#8]

/-- A decimal digit. -/
def digit (d : Nat) : Byte := BitVec.ofNat 8 (48 + d)

/-- The decimal digits of `m`, most significant first; `fuel` bounds their number. -/
def decFuel : Nat → Nat → List Byte
  | 0, _ => []
  | fuel + 1, m => if m < 10 then [digit m] else decFuel fuel (m / 10) ++ [digit (m % 10)]

/-- `dec(m)` (R60): decimal digits, no leading zero, `0` for 0. -/
def dec (m : Nat) : List Byte := decFuel (m + 1) m

/-- `m` with exactly `d` digits, zero-padded on the left (R61). -/
def decPadded : Nat → Nat → List Byte
  | 0, _ => []
  | d + 1, m => decPadded d (m / 10) ++ [digit (m % 10)]

/-- `fmt(x, d)` once x·10^d has been rounded to `m` (R61): the sign is that of `m`, `+` for 0. -/
def fmtInt (m : Int) (d : Nat) : List Byte :=
  (if m < 0 then ascii "-" else ascii "+") ++ dec (m.natAbs / 10 ^ d) ++ ascii "." ++ decPadded d (m.natAbs % 10 ^ d)

/-- `fmt(x, d)` (R61). -/
def fmt (P : Params) (x : NumTerm) (d : Nat) : List Byte :=
  if P.num.finite x then fmtInt (roundTie P.tie (P.num.scaled x (10 ^ d))) d else ascii "nan"

/-- `LIT(v)` (R60). -/
def lit (v : Int) : List Byte :=
  if v < 0 then ascii "-16'sd" ++ dec v.natAbs else ascii "16'sd" ++ dec v.natAbs

/-- `NAME(i)` (R58). -/
def coefName : Coef → List Byte
  | .b0 => ascii "B0_Q14"
  | .b1 => ascii "B1_Q14"
  | .b2 => ascii "B2_Q14"
  | .a1 => ascii "A1_Q14"
  | .a2 => ascii "A2_Q14"

/-- A flag as the character 0 or 1. -/
def flagChar (b : Bool) : List Byte := if b then ascii "1" else ascii "0"

/-- HUMANLINE (R61). -/
def humanLine (P : Params) (n : PerCoef NumTerm) : List Byte :=
  ascii "b0=" ++ fmt P n.b0 6 ++ ascii " b1=" ++ fmt P n.b1 6 ++ ascii " b2=" ++ fmt P n.b2 6
    ++ ascii " a1=" ++ fmt P n.a1 6 ++ ascii " a2=" ++ fmt P n.a2 6 ++ lineFeed

/-- PARAMLINE(i) (R59). -/
def paramLine (i : Coef) (w : Word) : List Byte :=
  ascii "signed [15:0] " ++ coefName i ++ ascii " = " ++ lit (dec16 w) ++ ascii ";" ++ lineFeed

/-- DIAGLINE(i) (R62). -/
def diagLine (P : Params) (i : Coef) (e : NumTerm) (sat : Bool) : List Byte :=
  coefName i ++ ascii " qerr=" ++ fmt P e 9 ++ ascii " sat=" ++ flagChar sat ++ lineFeed

/-- DEGENLINE (R62). -/
def degenLine (degen : Bool) : List Byte := ascii "degenerate_gain=" ++ flagChar degen ++ lineFeed

/-- TEXT.params (43_emit.md R106): the five PARAMLINEs. -/
def paramsText (q : PerCoef Word) : List Byte :=
  paramLine .b0 q.b0 ++ paramLine .b1 q.b1 ++ paramLine .b2 q.b2 ++ paramLine .a1 q.a1 ++ paramLine .a2 q.a2

/-- TEXT.diag (R106): the five DIAGLINEs and the DEGENLINE. -/
def diagText (P : Params) (e : PerCoef NumTerm) (sat : PerCoef Bool) (degen : Bool) : List Byte :=
  diagLine P .b0 e.b0 sat.b0 ++ diagLine P .b1 e.b1 sat.b1 ++ diagLine P .b2 e.b2 sat.b2
    ++ diagLine P .a1 e.a1 sat.a1 ++ diagLine P .a2 e.a2 sat.a2 ++ degenLine degen

/-- The text EMIT writes (R105). -/
def outputText (P : Params) (n : PerCoef NumTerm) (q : PerCoef Word) (e : PerCoef NumTerm) (sat : PerCoef Bool) (degen : Bool) :
    List Byte :=
  humanLine P n ++ paramsText q ++ diagText P e sat degen

/-! ### Reading a literal back (43_emit.md R107) -/

/-- The value of a string of decimal digits, read from the left onto `acc`. -/
def readDigits (acc : Nat) : List Byte → Option Nat
  | [] => some acc
  | b :: rest => if 48 ≤ b.toNat ∧ b.toNat < 58 then readDigits (10 * acc + (b.toNat - 48)) rest else none

/-- The value of a literal: a leading `-` negates the number after `'sd` (R107). -/
def readLit (t : List Byte) : Option Int :=
  if t.take 6 = ascii "-16'sd" then (readDigits 0 (t.drop 6)).map fun m => -(m : Int)
  else if t.take 5 = ascii "16'sd" then (readDigits 0 (t.drop 5)).map fun m => (m : Int)
  else none

end Sys2Proof.Machine
end

