-- ==== Sys2Proof/Machine/Emit.lean ====
section
/-! DEFINITION. EMIT (43_emit.md R105). -/

namespace Sys2Proof.Machine

/-- The writes of EMIT: TEXT, DONE, BUSY, STAGE. -/
def endRun (t : List Byte) (s : State) : State :=
  { s with text := t, status := { s.status with done := true, busy := false }, stage := Stage.done }

/-- EMIT (R105). Operands are read in the order of the rule's Operands line: DESIGN CHOICE, notes/assumptions/5.md. -/
def emitOp (P : Params) (s : State) : Res :=
  needAll .n s.n fun n => needAll .q14 s.q14 fun q => needAll .qe s.qe fun e =>
    .next (endRun (outputText P n q e s.status.sat s.status.degen) s)

/-- EMIT. -/
def execEmit (s : State) : Res := emitOp Config.hw s

end Sys2Proof.Machine
end

