-- ==== Sys2Proof/Machine/HostOps.lean ====
section
/-! DEFINITION. The host's operations: RESET, START and READ (44_host_interface.md R116 to R120). -/

namespace Sys2Proof.Machine

/-- RESET (R116): accepted in every state. -/
def execReset (s : State) : Res := .next (resetRegisters s)

/-- START (R117) in IDLE, DONE and ERR; in any other stage the request is ignored and not remembered (R118, R54). -/
def execStart (s : State) : Res := if Stage.resting s.stage then .next (beginRun s) else .next s

/-- What a port carries. -/
inductive PortValue where
  | word (w : Word)
  | status (w : BitVec 16)
  | errcause (c : CauseCode)
  | stage (c : StageCode)
  | num (x : NumTerm)
  | text (t : List Byte)
deriving DecidableEq, Repr

/-- TEXT as a data register of R32: no value where it is unwritten, which R33 and R36 show as the empty string. What EMIT
writes is never empty (R105). -/
def State.textValue (s : State) : Option (List Byte) := if s.text = [] then none else some s.text

/-- The value on a data port: defined in DONE, where its register is written (R119, R120). -/
def dataPort (s : State) (v : Option PortValue) : Option PortValue :=
  if s.stage = Stage.done then v else none

/-- What the host reads on a port (R119), or none where the port has no defined value (R120). `status`, `errcause` and
`stage` can be read in every state. A data port outside DONE carries nothing even where its register is written: DESIGN
CHOICE, notes/assumptions/14.md. -/
def readPort (s : State) : Port → Option PortValue
  | .q14 i => dataPort s ((s.q14.get i).map .word)
  | .status => some (.status (statusWord s.status))
  | .errcause => some (.errcause s.errcause)
  | .stage => some (.stage s.stage)
  | .nOut i => dataPort s ((s.n.get i).map .num)
  | .gOut => dataPort s (s.g.map .num)
  | .qeOut i => dataPort s ((s.qe.get i).map .num)
  | .text => dataPort s (s.textValue.map .text)

/-- READ as a turn: it writes nothing (R119); for a port with no defined value "a model faults or refuses the read" (R120),
and this one faults: DESIGN CHOICE, notes/assumptions/14.md. -/
def execRead (p : Port) (s : State) : Res :=
  match readPort s p with
  | some _ => .next s
  | none => .fault (.portUndefined p)

end Sys2Proof.Machine
end

