-- ==== Sys2Proof/Machine/Normalize.lean ====
section
/-! DEFINITION. NRM and UGN (41_normalize.md). -/

namespace Sys2Proof.Machine

/-- The writes of NRM (R80): the five quotients by A0. -/
def writeNormalized (b0 b1 b2 a0 a1 a2 : NumTerm) (s : State) : State :=
  { s with
    n := ⟨some (.div b0 a0), some (.div b1 a0), some (.div b2 a0), some (.div a1 a0), some (.div a2 a0)⟩
    stage := Stage.ugn }

/-- NRM (R80). The machine has no zero test here: the divisions are whatever NUM gives (D26). Operands are
read in the order of the rule's Operands line: DESIGN CHOICE, notes/assumptions/5.md. -/
def nrmOp (s : State) : Res :=
  need .b0 s.b0 fun b0 => need .b1 s.b1 fun b1 => need .b2 s.b2 fun b2 =>
    need .a0 s.a0 fun a0 => need .a1 s.a1 fun a1 => need .a2 s.a2 fun a2 =>
      .next (writeNormalized b0 b1 b2 a0 a1 a2 s)

/-- The gain at the center frequency, of the normalized coefficients (R81, R82). -/
def gainFormula (n : PerCoef NumTerm) (w0 : NumTerm) : NumTerm := .gainmag n.b0 n.b1 n.b2 n.a1 n.a2 w0

/-- The numerator divided by the gain; the feedback taps are not written (R82). -/
def writeRescaled (n : PerCoef NumTerm) (g : NumTerm) (s : State) : State :=
  { s with n := { s.n with b0 := some (.div n.b0 g), b1 := some (.div n.b1 g), b2 := some (.div n.b2 g) } }

/-- What UGN does with the gain `g` (R82): DegenerateGainWarning when it is exactly zero, else the rescale. -/
def applyGain (P : Params) (n : PerCoef NumTerm) (g : NumTerm) (s : State) : State :=
  if P.num.isZero g then raiseDegenerateGainWarning { s with g := some g }
  else writeRescaled n g { s with g := some g }

/-- UGN (R82). With UG = 0 it reads no operand and writes only STAGE (D12). Operands are read in the order of the rule's
Operands line, W0 first: DESIGN CHOICE, notes/assumptions/5.md. -/
def ugnOp (P : Params) (s : State) : Res :=
  if s.ug then
    need .w0 s.w0 fun w0 => needAll .n s.n fun n =>
      .next { applyGain P n (gainFormula n w0) s with stage := Stage.qb0 }
  else .next { s with stage := Stage.qb0 }

/-- NRM. -/
def execNrm (s : State) : Res := nrmOp s

/-- UGN. -/
def execUgn (s : State) : Res := ugnOp Config.hw s

end Sys2Proof.Machine
end

