-- ==== Sys2Proof/Machine/Quantizer.lean ====
section
/-! DEFINITION. QB0, QB1, QB2, QA1, QA2 (42_quantize.md R97 to R101): one operation, five indices and successors. -/

namespace Sys2Proof.Machine

/-- QB0 over the parameters (R97). -/
def qb0Op (P : Params) (s : State) : Res := quantizeOp P .b0 Stage.qb1 s

/-- QB1 over the parameters (R98). -/
def qb1Op (P : Params) (s : State) : Res := quantizeOp P .b1 Stage.qb2 s

/-- QB2 over the parameters (R99). -/
def qb2Op (P : Params) (s : State) : Res := quantizeOp P .b2 Stage.qa1 s

/-- QA1 over the parameters (R100). -/
def qa1Op (P : Params) (s : State) : Res := quantizeOp P .a1 Stage.qa2 s

/-- QA2 over the parameters (R101). -/
def qa2Op (P : Params) (s : State) : Res := quantizeOp P .a2 Stage.emit s

/-- QB0. -/
def execQb0 (s : State) : Res := qb0Op Config.hw s

/-- QB1. -/
def execQb1 (s : State) : Res := qb1Op Config.hw s

/-- QB2. -/
def execQb2 (s : State) : Res := qb2Op Config.hw s

/-- QA1. -/
def execQa1 (s : State) : Res := qa1Op Config.hw s

/-- QA2. -/
def execQa2 (s : State) : Res := qa2Op Config.hw s

end Sys2Proof.Machine
end

