-- ==== Sys2Proof/Machine/Dispatch.lean ====
section
/-! DEFINITION. One arm per operation. -/

namespace Sys2Proof.Machine

def exec (i : Instr) (s : State) : Host.Outcome State Fault Refusal :=
  match i with
  | .chk => Sys2Proof.Machine.execChk s
  | .drv => Sys2Proof.Machine.execDrv s
  | .nrm => Sys2Proof.Machine.execNrm s
  | .ugn => Sys2Proof.Machine.execUgn s
  | .qb0 => Sys2Proof.Machine.execQb0 s
  | .qb1 => Sys2Proof.Machine.execQb1 s
  | .qb2 => Sys2Proof.Machine.execQb2 s
  | .qa1 => Sys2Proof.Machine.execQa1 s
  | .qa2 => Sys2Proof.Machine.execQa2 s
  | .emit => Sys2Proof.Machine.execEmit s
  | .reset => Sys2Proof.Machine.execReset s
  | .start => Sys2Proof.Machine.execStart s

end Sys2Proof.Machine
end

