-- ==== Sys2Proof/Machine/Sequencer.lean ====
section
/-! DEFINITION. Whose turn it is and what it runs (00_scope.md R17, 44_host_interface.md R115, 30_encoding.md R55), over
any `run` that executes an operation; and how an operation's word is placed where the next step finds it. -/

namespace Sys2Proof.Machine

/-- The sequencer's turn (R115): the operation STAGE names; in a resting state there is no step and nothing changes; a
reserved code is stuck (R54). -/
def sequencerTurn (run : Instr → State → Res) (s : State) : Res :=
  match stageMeaning s.stage with
  | .op i => run i s
  | .resting => .next s
  | .stuck => .fault (.stuckStage s.stage)

/-- HOSTCTL, the pair `{rst, start}` on the wires (R55). -/
def hostCtl (w : HostPorts) : HostCtl := BitVec.ofNat 2 ((if w.rst then 2 else 0) + (if w.start then 1 else 0))

/-- The host's turn (R55): the request on the wires, or none, and then nothing changes. -/
def hostTurn (run : Instr → State → Res) (s : State) : Res :=
  match hostRequest (hostCtl s.wires) with
  | some i => run i s
  | none => .next s

/-- One step: the next turn, or the sequencer's when no turn is left. -/
def turnStep (run : Instr → State → Res) (s : State) : Res :=
  match s.turns with
  | [] => sequencerTurn run s
  | .seq :: rest => sequencerTurn run { s with turns := rest }
  | .lines w :: rest => hostTurn run { s with turns := rest, wires := w }
  | .read p :: rest => execRead p { s with turns := rest }

/-- Place a table word where the next step finds it: a STAGE word in STAGE with the turn the sequencer's, a HOSTCTL word
on the wires with the turn the host's (the values on the other ports stay). -/
def placeWord (s : State) (nbits w : Nat) : State :=
  match formatOfBits nbits with
  | .stage => { s with stage := BitVec.ofNat 4 (w % 2 ^ nbits), turns := .seq :: s.turns }
  | .hostctl =>
    { s with
      turns := .lines { s.wires with rst := (w % 2 ^ nbits).testBit 1, start := (w % 2 ^ nbits).testBit 0 } :: s.turns }

end Sys2Proof.Machine
end

