-- ==== Sys2Proof/Machine/Step.lean ====
section
/-! DEFINITION. One step of the machine. -/

namespace Sys2Proof.Machine

/-- One turn of an agent (44_host_interface.md R115 to R119). -/
def step (s : State) : Host.Outcome State Fault Refusal := turnStep exec s

/-- The state with an opcode-table word placed where the next step runs it. notes/assumptions/13.md. -/
def State.withFetchWord (s : State) (nbits w : Nat) : State := placeWord s nbits w

end Sys2Proof.Machine
end

