-- ==== Sys2Proof/Machine/Parametric.lean ====
section
/-! DEFINITION. The machine over any parameters (00_scope.md R9: each open parameter is an argument of the model), and the
whole-run function PIPELINE (44_host_interface.md R122). At `Config.hw` it is the machine of Dispatch and Step. -/

namespace Sys2Proof.Machine

/-- `exec` over the parameters `P`. -/
def execWith (P : Params) (i : Instr) (s : State) : Res :=
  match i with
  | .chk => chkOp P s
  | .drv => drvOp P s
  | .nrm => nrmOp s
  | .ugn => ugnOp P s
  | .qb0 => qb0Op P s
  | .qb1 => qb1Op P s
  | .qb2 => qb2Op P s
  | .qa1 => qa1Op P s
  | .qa2 => qa2Op P s
  | .emit => emitOp P s
  | .reset => execReset s
  | .start => execStart s

/-- `step` over the parameters `P`. -/
def stepWith (P : Params) (s : State) : Res := turnStep (execWith P) s

/-- `k` steps, stopping at the first fault or refusal. -/
def runWith (P : Params) : Nat → State → Res
  | 0, s => .next s
  | k + 1, s =>
    match stepWith P s with
    | .next t => runWith P k t
    | .fault e => .fault e
    | .refused r => .refused r

/-- A FilterSpec (INDEX.md; 10_state.md R21, R22): what the host presents with START. -/
structure FilterSpec where
  fs : NumTerm
  f0 : NumTerm
  q  : NumTerm
  ug : Bool
deriving DecidableEq, Repr

/-- The ports as the host drives them for `START fs f0 q ug` (R65). -/
def FilterSpec.ports (x : FilterSpec) : HostPorts where
  rst := false
  start := true
  fsIn := x.fs
  f0In := x.f0
  qIn := x.q
  ugIn := x.ug

/-- `PIPELINE(fs, f0, q, ug)` (R66, R122): START, then the ten sequencer steps after which every run has ended (R115). -/
def pipelineWith (P : Params) (x : FilterSpec) (s : State) : Res :=
  runWith P 11 { s with turns := [.lines x.ports] }

end Sys2Proof.Machine
end

