-- ==== Sys2Proof/Machine/Exact.lean ====
section
/-! DEFINITION. The reference instance EXACT of NUM (00_scope.md R11): exact real arithmetic, "the meaning of every formula
in this spec". The machine does not use it; claims about the formulas' values are stated with it, through the machine over
any parameters (Machine/Parametric.lean). It is noncomputable because the reals are. -/

namespace Sys2Proof.Machine.Exact

/-- The quotient by zero: EXACT reaches it on no run that passes validation (R11), and the spec gives it no value.
notes/assumptions/16.md. -/
opaque divZero : ℝ → ℝ

/-- `gainmag` where the denominator of H is zero: no value (41_normalize.md R81). notes/assumptions/16.md. -/
opaque gainAtPole : ℝ → ℝ → ℝ → ℝ → ℝ → ℝ → ℝ

/-- The quotient of two reals. -/
noncomputable def quot (a b : ℝ) : ℝ := if b = 0 then divZero a else a / b

/-- The real and imaginary part of `c0 + c1*e^{-jw} + c2*e^{-2jw}` (R81). -/
noncomputable def tapsRe (c0 c1 c2 w : ℝ) : ℝ := c0 + c1 * Real.cos w + c2 * Real.cos (2 * w)

/-- See `tapsRe`. -/
noncomputable def tapsIm (c1 c2 w : ℝ) : ℝ := -(c1 * Real.sin w + c2 * Real.sin (2 * w))

/-- `gainmag` of R81. -/
noncomputable def gain (b0 b1 b2 a1 a2 w : ℝ) : ℝ :=
  if tapsRe 1 a1 a2 w = 0 ∧ tapsIm a1 a2 w = 0 then gainAtPole b0 b1 b2 a1 a2 w
  else Real.sqrt ((tapsRe b0 b1 b2 w ^ 2 + tapsIm b1 b2 w ^ 2) / (tapsRe 1 a1 a2 w ^ 2 + tapsIm a1 a2 w ^ 2))

/-- `val` of EXACT (R10, R11): the real a formula denotes, where pattern n on a Num port denotes `port n`. -/
noncomputable def val (port : Nat → ℝ) : NumTerm → ℝ
  | .lit num den => quot num den
  | .raw n => port n
  | .pi => Real.pi
  | .add a b => val port a + val port b
  | .sub a b => val port a - val port b
  | .mul a b => val port a * val port b
  | .div a b => quot (val port a) (val port b)
  | .neg a => -val port a
  | .sin a => Real.sin (val port a)
  | .cos a => Real.cos (val port a)
  | .gainmag b0 b1 b2 a1 a2 w =>
    gain (val port b0) (val port b1) (val port b2) (val port a1) (val port a2) (val port w)

/-- EXACT as an instance of NUM (R11): every value is finite, the comparisons are those of the reals. -/
noncomputable def num (port : Nat → ℝ) : NUM where
  finite _ := true
  lt a b := decide (val port a < val port b)
  isZero a := decide (val port a = 0)
  scaled a k := Scaled.ofReal (val port a * k)
  val := val port
  ofInt_exact n _ _ := ⟨rfl, by simp [NumTerm.ofInt, val, quot]⟩
  lt_iff a b := by simp
  isZero_iff a := by simp
  scaled_eq _ _ _ := rfl

/-- The parameters of a machine whose NUM is EXACT; ROUND_TIE stays open, and so do the free words, of which EXACT draws
none (R13). -/
noncomputable def params (port : Nat → ℝ) (t : RoundTie) (free : Nat → Word) : Params where
  num := num port
  tie := t
  freeWord := free

end Sys2Proof.Machine.Exact
end

