-- ==== Sys2Proof/Safety.lean ====
section
/-! DEFINITION. What claims are stated in: the shape of a state a run can reach, the values its registers must hold, a
run that can be trusted (60_exceptions.md R142), stability (41_normalize.md R85) and the named properties of an admitted
NUM (00_scope.md R12). -/

namespace Sys2Proof.Machine

/-! ### How far a run has come -/

/-- The operations behind a stage code, counted from IDLE = 0, START = 1; ERR is reached from CHK and is as far as it. -/
def stageRank (c : StageCode) : Nat := if c = Stage.err then 1 else c.toNat

/-- The rank at which coefficient `i` has been quantized. -/
def quantizedRank (i : Coef) : Nat := 6 + i.idx

/-! ### The shape of a reachable state -/

/-- Which registers are written, and which flags can be set, follows from STAGE and UG (10_state.md R29, R30, R32, R34,
R36, R37). -/
structure Shape (s : State) : Prop where
  /-- No run produces a reserved code (30_encoding.md R54). -/
  defined : Stage.reserved s.stage = false
  fs : s.fs.isSome = decide (1 ≤ stageRank s.stage)
  f0 : s.f0.isSome = decide (1 ≤ stageRank s.stage)
  qf : s.qf.isSome = decide (1 ≤ stageRank s.stage)
  ug : s.stage = Stage.idle → s.ug = false
  w0 : s.w0.isSome = decide (3 ≤ stageRank s.stage)
  alpha : s.alpha.isSome = decide (3 ≤ stageRank s.stage)
  b0 : s.b0.isSome = decide (3 ≤ stageRank s.stage)
  b1 : s.b1.isSome = decide (3 ≤ stageRank s.stage)
  b2 : s.b2.isSome = decide (3 ≤ stageRank s.stage)
  a0 : s.a0.isSome = decide (3 ≤ stageRank s.stage)
  a1 : s.a1.isSome = decide (3 ≤ stageRank s.stage)
  a2 : s.a2.isSome = decide (3 ≤ stageRank s.stage)
  n : ∀ i, (s.n.get i).isSome = decide (4 ≤ stageRank s.stage)
  g : s.g.isSome = (s.ug && decide (5 ≤ stageRank s.stage))
  q14 : ∀ i, (s.q14.get i).isSome = decide (quantizedRank i ≤ stageRank s.stage)
  qe : ∀ i, (s.qe.get i).isSome = decide (quantizedRank i ≤ stageRank s.stage)
  text : s.stage ≠ Stage.done → s.text = []
  busy : s.status.busy = !Stage.resting s.stage
  done : s.status.done = decide (s.stage = Stage.done)
  err : s.status.err = decide (s.stage = Stage.err)
  cause : s.errcause = 0#4 ↔ s.status.err = false
  degen : s.status.degen = true → s.ug = true ∧ 5 ≤ stageRank s.stage
  sat : ∀ i, s.status.sat.get i = true → quantizedRank i ≤ stageRank s.stage

/-! ### The values -/

/-- The AnalogCoefficients of a FilterSpec divided by a0 (R71, R80). -/
def normalizedOf (fs f0 q : NumTerm) : PerCoef NumTerm :=
  let w0 := w0Formula fs f0
  let alpha := alphaFormula w0 q
  let a0 : NumTerm := .add (NumTerm.ofInt 1) alpha
  ⟨.div alpha a0, .div (NumTerm.ofInt 0) a0, .div (.neg alpha) a0,
    .div (.neg (.mul (NumTerm.ofInt 2) (.cos w0))) a0, .div (.sub (NumTerm.ofInt 1) alpha) a0⟩

/-- The gain UGN computes (R81, R82). -/
def gainOf (fs f0 q : NumTerm) : NumTerm := gainFormula (normalizedOf fs f0 q) (w0Formula fs f0)

/-- N after UGN (R82). -/
def finalCoefs (M : NUM) (fs f0 q : NumTerm) (ug : Bool) : PerCoef NumTerm :=
  let n := normalizedOf fs f0 q
  let g := gainOf fs f0 q
  if ug && !M.isZero g then { n with b0 := .div n.b0 g, b1 := .div n.b1 g, b2 := .div n.b2 g } else n

/-- Word `w` and flag `sat` are what quantizing `x` gives: the clamped rounded value and its flag; for a value that is not
finite any word, flagged (42_quantize.md R90, R96). -/
def Quantized (P : Params) (x : NumTerm) (w : Word) (sat : Bool) : Prop :=
  if P.num.finite x then w = enc16 (quantize P x).1 ∧ sat = (quantize P x).2 else sat = true

/-- Every written register holds what the rules compute from the latched FilterSpec. -/
structure Computed (P : Params) (s : State) : Prop where
  /-- A run goes past CHK on a valid FilterSpec only (R70). -/
  valid : ∀ fs f0 q, s.fs = some fs → s.f0 = some f0 → s.qf = some q → 2 ≤ stageRank s.stage →
    filterSpecOk P.num fs f0 q = true
  /-- ERR is reached on an invalid one only, and ERRCAUSE says why (R131, R132). -/
  invalid : ∀ fs f0 q, s.fs = some fs → s.f0 = some f0 → s.qf = some q → s.stage = Stage.err →
    filterSpecOk P.num fs f0 q = false ∧ s.errcause = causeOf P.num fs f0 q
  /-- R71. -/
  analog : ∀ fs f0 q, s.fs = some fs → s.f0 = some f0 → s.qf = some q → 3 ≤ stageRank s.stage →
    s.w0 = some (w0Formula fs f0) ∧ s.alpha = some (alphaFormula (w0Formula fs f0) q) ∧
    s.b0 = some (alphaFormula (w0Formula fs f0) q) ∧ s.b1 = some (NumTerm.ofInt 0) ∧
    s.b2 = some (.neg (alphaFormula (w0Formula fs f0) q)) ∧
    s.a0 = some (.add (NumTerm.ofInt 1) (alphaFormula (w0Formula fs f0) q)) ∧
    s.a1 = some (.neg (.mul (NumTerm.ofInt 2) (.cos (w0Formula fs f0)))) ∧
    s.a2 = some (.sub (NumTerm.ofInt 1) (alphaFormula (w0Formula fs f0) q))
  /-- R80. -/
  normalized : ∀ fs f0 q, s.fs = some fs → s.f0 = some f0 → s.qf = some q → stageRank s.stage = 4 →
    s.n = (normalizedOf fs f0 q).map some
  /-- R82. -/
  rescaled : ∀ fs f0 q, s.fs = some fs → s.f0 = some f0 → s.qf = some q → 5 ≤ stageRank s.stage →
    s.n = (finalCoefs P.num fs f0 q s.ug).map some ∧
    s.g = (if s.ug then some (gainOf fs f0 q) else none) ∧
    s.status.degen = (s.ug && P.num.isZero (gainOf fs f0 q))
  /-- R90, R93, R94, R96. -/
  quantized : ∀ i x w, s.n.get i = some x → s.q14.get i = some w →
    Quantized P x w (s.status.sat.get i) ∧ ∃ q : Int, enc16 q = w ∧ -32768 ≤ q ∧ q ≤ 32767 ∧ s.qe.get i = some (qerr x q)
  /-- R105. -/
  text : ∀ n q e, s.stage = Stage.done → s.n = n.map some → s.q14 = q.map some → s.qe = e.map some →
    s.text = outputText P n q e s.status.sat s.status.degen

/-- The invariant of the machine over `P`. -/
def Inv (P : Params) (s : State) : Prop := Shape s ∧ Computed P s

/-! ### A run that can be trusted -/

/-- No event at the end of a run (60_exceptions.md R142): ERR = 0, SAT = 00000, and DEGEN = 0. -/
def State.clean (s : State) : Bool := !s.status.err && s.status.sat == PerCoef.all false && !s.status.degen

/-- The registers of the FilterSpec are the same. -/
def SameLatches (s t : State) : Prop := t.fs = s.fs ∧ t.f0 = s.f0 ∧ t.qf = s.qf ∧ t.ug = s.ug

/-- W0, ALPHA and the analog coefficients are the same. -/
def SameAnalog (s t : State) : Prop :=
  t.w0 = s.w0 ∧ t.alpha = s.alpha ∧ t.b0 = s.b0 ∧ t.b1 = s.b1 ∧ t.b2 = s.b2 ∧ t.a0 = s.a0 ∧ t.a1 = s.a1 ∧ t.a2 = s.a2

/-- What is no register of the block is the same: the wires and the turns to come. -/
def SameOutside (s t : State) : Prop := t.wires = s.wires ∧ t.turns = s.turns

/-- The step is the sequencer's: a listed turn of it, or no turn left. -/
def SequencersTurn (s : State) : Prop := s.turns = [] ∨ ∃ rest, s.turns = .seq :: rest

/-- The registers an operation needs written, in the order of its rule's Operands line (10_state.md R34). Which of several
unwritten ones the fault names is the model's choice, notes/assumptions/5.md. -/
def operandsOf (i : Instr) (ug : Bool) : List Reg :=
  match i with
  | .chk => [.fs, .f0, .qf]
  | .drv => [.fs, .f0, .qf]
  | .nrm => [.b0, .b1, .b2, .a0, .a1, .a2]
  | .ugn => if ug then .w0 :: Coef.all.map .n else []
  | .qb0 => [.n .b0]
  | .qb1 => [.n .b1]
  | .qb2 => [.n .b2]
  | .qa1 => [.n .a1]
  | .qa2 => [.n .a2]
  | .emit => Coef.all.map .n ++ Coef.all.map .q14 ++ Coef.all.map .qe
  | .reset => []
  | .start => []

/-- The register holds a value (R32). -/
def State.written (s : State) : Reg → Bool
  | .fs => s.fs.isSome
  | .f0 => s.f0.isSome
  | .qf => s.qf.isSome
  | .w0 => s.w0.isSome
  | .alpha => s.alpha.isSome
  | .b0 => s.b0.isSome
  | .b1 => s.b1.isSome
  | .b2 => s.b2.isSome
  | .a0 => s.a0.isSome
  | .a1 => s.a1.isSome
  | .a2 => s.a2.isSome
  | .n i => (s.n.get i).isSome
  | .g => s.g.isSome
  | .q14 i => (s.q14.get i).isSome
  | .qe i => (s.qe.get i).isSome

/-- The quantize operations, with their coefficient and their successor (42_quantize.md R97 to R101). -/
def IsQuantize (i : Instr) (c : Coef) (next : StageCode) : Prop :=
  (i = .qb0 ∧ c = .b0 ∧ next = Stage.qb1) ∨ (i = .qb1 ∧ c = .b1 ∧ next = Stage.qb2) ∨
  (i = .qb2 ∧ c = .b2 ∧ next = Stage.qa1) ∨ (i = .qa1 ∧ c = .a1 ∧ next = Stage.qa2) ∨
  (i = .qa2 ∧ c = .a2 ∧ next = Stage.emit)

/-! ### Stability (R85) -/

/-- The check of R85 on the real coefficients: |a2| < 1, and the discriminant-based pole magnitude check. -/
noncomputable def StabilityCheck (a1 a2 : ℝ) : Prop :=
  |a2| < 1 ∧
  (a1 ^ 2 - 4 * a2 < 0 → a2 < 1) ∧
  (0 ≤ a1 ^ 2 - 4 * a2 →
    |(-a1 + Real.sqrt (a1 ^ 2 - 4 * a2)) / 2| < 1 ∧ |(-a1 - Real.sqrt (a1 ^ 2 - 4 * a2)) / 2| < 1)

/-- Both poles, the roots of z^2 + a1*z + a2, lie strictly inside the unit circle. -/
def PolesInside (a1 a2 : ℝ) : Prop := ∀ z : ℂ, z ^ 2 + (a1 : ℂ) * z + (a2 : ℂ) = 0 → ‖z‖ < 1

/-- The document's preconditions on the reals a FilterSpec denotes (R70). -/
def Exact.Valid (port : Nat → ℝ) (x : FilterSpec) : Prop :=
  0 < Exact.val port x.fs ∧ 0 < Exact.val port x.f0 ∧ Exact.val port x.f0 < Exact.val port x.fs / 2 ∧
    0 < Exact.val port x.q

/-- PIPELINE over EXACT on `x` from `s` ends in DONE, in the state `u` whose normalized coefficients are `n`. -/
def Exact.Ends (port : Nat → ℝ) (t : RoundTie) (free : Nat → Word) (x : FilterSpec) (s u : State) (n : PerCoef NumTerm) :
    Prop :=
  pipelineWith (Exact.params port t free) x s = .next u ∧ u.stage = Stage.done ∧ u.n = n.map some

/-! ### The named properties of an admitted NUM (R12)

(a), NUM_DET, is built in: the fields of `NUM` are functions and a register holds the formula of its value. -/

/-- The FilterSpec of the document's first property: fs = 1,000,000, f0 = 30,000, Q = 3, flag set. -/
def referenceSpec : FilterSpec := ⟨NumTerm.ofInt 1000000, NumTerm.ofInt 30000, NumTerm.ofInt 3, true⟩

/-- `t` is the end of a successful run on `x` from reset. -/
def Designs (P : Params) (x : FilterSpec) (t : State) : Prop :=
  pipelineWith P x State.reset = .next t ∧ t.stage = Stage.done

/-- NUM_GAIN (R12 (b)): the run on the reference FilterSpec succeeds, and after the rescale |H(e^{jw0})| = 1 within 1e-9.
Which w0 a rounding NUM is measured at R12 does not say: it is the real that register W0 holds, the angle UGN itself uses,
and not the exact 2π·30000/1,000,000. DESIGN CHOICE, notes/assumptions/19.md. -/
def NumGain (P : Params) : Prop :=
  (∃ t, Designs P referenceSpec t) ∧ ∀ t n w, Designs P referenceSpec t → t.n = PerCoef.map some n → t.w0 = some w →
    (∀ i, P.num.finite (n.get i) = true) ∧ P.num.finite w = true ∧
    |Exact.gain (P.num.val n.b0) (P.num.val n.b1) (P.num.val n.b2) (P.num.val n.a1) (P.num.val n.a2) (P.num.val w) - 1|
      ≤ 1 / 10 ^ 9

/-- NUM_A1 (R12 (c)): that run succeeds, and A1 is -2·cos(2π·30000/1,000,000) within 1e-9. -/
def NumA1 (P : Params) : Prop :=
  (∃ t, Designs P referenceSpec t) ∧ ∀ t a, Designs P referenceSpec t → t.a1 = some a →
    P.num.finite a = true ∧ |P.num.val a - -2 * Real.cos (2 * Real.pi * 30000 / 1000000)| ≤ 1 / 10 ^ 9

/-- NUM_STABLE (R12 (d)): for every valid FilterSpec the pole pair lies strictly inside the unit circle. -/
def NumStable (P : Params) : Prop :=
  ∀ x t n, Designs P x t → t.n = PerCoef.map some n →
    P.num.finite n.a1 = true ∧ P.num.finite n.a2 = true ∧ StabilityCheck (P.num.val n.a1) (P.num.val n.a2)

/-- NUM_B1 (R12 (e)): B1, B1N and B1_Q14 are exactly zero. -/
def NumB1 (P : Params) : Prop :=
  ∀ x t b n, Designs P x t → t.b1 = some b → t.n.b1 = some n →
    P.num.isZero b = true ∧ P.num.isZero n = true ∧ t.q14.b1 = some 0#16

/-! ### What a claim may ask of NUM by name -/

/-- `div` halves `x` exactly: asked where CHK's f0 < fs/2 is to be the document's. No NUM need have it. -/
def Halves (M : NUM) (x : NumTerm) : Prop :=
  M.finite x = true → M.finite (.div x (NumTerm.ofInt 2)) = true ∧ M.val (.div x (NumTerm.ofInt 2)) = M.val x / 2

/-- "0 divided by a nonzero finite value is 0" (41_normalize.md R80), a sentence about EXACT and about any NUM with NUM_B1,
asked by name of any other. No NUM need have it. -/
def ZeroQuotient (M : NUM) : Prop :=
  ∀ a b, M.isZero a = true → M.finite b = true → M.isZero b = false → M.isZero (.div a b) = true

/-- The rational `n / d` presented on a port is held exactly. No NUM need have it. -/
def Holds (M : NUM) (n : Int) (d : Nat) : Prop := M.finite (.lit n d) = true ∧ M.val (.lit n d) = (n : ℝ) / d

end Sys2Proof.Machine
end

