-- ==== Sys2Proof/Certificates/Slice0/Obligations.lean ====
section
/-! DEFINITION. The statements for the provers. Each says what its title claims and no more; `Config.hw` is the hardware's
open parameters, so a statement about `exec` or `step` holds whatever they are. -/

open Sys2Proof Sys2Proof.Machine

/-! ### Words and steps -/

/-- R53, R55: the words of the opcode map, written out from the spec's codes, decode to their operations; the resting and
the reserved codes and the idle lines are rejected by name. -/
def Obligations.OpcodeMapDecodes : Prop :=
  decode .stage [0b0001#8] = .ok (.chk, []) ∧ decode .stage [0b0010#8] = .ok (.drv, []) ∧
  decode .stage [0b0011#8] = .ok (.nrm, []) ∧ decode .stage [0b0100#8] = .ok (.ugn, []) ∧
  decode .stage [0b0101#8] = .ok (.qb0, []) ∧ decode .stage [0b0110#8] = .ok (.qb1, []) ∧
  decode .stage [0b0111#8] = .ok (.qb2, []) ∧ decode .stage [0b1000#8] = .ok (.qa1, []) ∧
  decode .stage [0b1001#8] = .ok (.qa2, []) ∧ decode .stage [0b1010#8] = .ok (.emit, []) ∧
  decode .stage [0b0000#8] = .error .restingState ∧ decode .stage [0b1011#8] = .error .restingState ∧
  decode .stage [0b1111#8] = .error .restingState ∧
  decode .stage [0b1100#8] = .error .reservedStage ∧ decode .stage [0b1101#8] = .error .reservedStage ∧
  decode .stage [0b1110#8] = .error .reservedStage ∧
  decode .hostctl [0b10#8] = .ok (.reset, []) ∧ decode .hostctl [0b11#8] = .ok (.reset, []) ∧
  decode .hostctl [0b01#8] = .ok (.start, []) ∧ decode .hostctl [0b00#8] = .error .noRequest

/-- Decoding the words of a well-formed operation gives it back, and the bytes after them; and a word that decodes is the
word of the operation it gives, but for the start line of RESET (R53, R55). -/
def Obligations.DecodeAndEncodeAgree : Prop :=
  (∀ (i : Instr) (rest : List Byte), i.wf = true → decode i.format (encode i ++ rest) = .ok (i, rest)) ∧
  (∀ (f : Format) (b : Byte) (i : Instr) (rest rest' : List Byte), decode f (b :: rest) = .ok (i, rest') →
    rest' = rest ∧ f = i.format ∧ (b = encodeWord i ∨ (i = .reset ∧ b = 0b11#8)))

/-- R17, R115: where the turn is the sequencer's and the word in STAGE decodes, the step is exec of that operation; where it
is the host's and the lines decode, exec of that request, after the lines are on the wires. -/
def Obligations.StepRunsTheDecodedOperation : Prop :=
  (∀ (s : State) (i : Instr), s.turns = [] → decode .stage [s.stage.setWidth 8] = .ok (i, []) → step s = exec i s) ∧
  (∀ (s : State) (i : Instr) (rest : List Turn), s.turns = .seq :: rest →
    decode .stage [s.stage.setWidth 8] = .ok (i, []) → step s = exec i { s with turns := rest }) ∧
  (∀ (s : State) (i : Instr) (w : HostPorts) (rest : List Turn), s.turns = .lines w :: rest →
    decode .hostctl [(hostCtl w).setWidth 8] = .ok (i, []) → step s = exec i { s with turns := rest, wires := w })

/-- R55: in a host step, rst is RESET whatever start is, start alone is START, and neither is no request. -/
def Obligations.HostLinesRequest : Prop :=
  ∀ (s : State) (w : HostPorts) (rest : List Turn), s.turns = .lines w :: rest →
    (w.rst = true → step s = exec .reset { s with turns := rest, wires := w }) ∧
    (w.rst = false → w.start = true → step s = exec .start { s with turns := rest, wires := w }) ∧
    (w.rst = false → w.start = false → step s = .next { s with turns := rest, wires := w })

/-- R54: 1100, 1101 and 1110 are reserved; a reserved code is produced by no step from a defined one; in it the sequencer
is stuck, START is ignored, RESET leaves it, and no other step does. -/
def Obligations.ReservedStageCodes : Prop :=
  (∀ c : StageCode, Stage.reserved c = true ↔ c = 0b1100#4 ∨ c = 0b1101#4 ∨ c = 0b1110#4) ∧
  (∀ s t : State, Stage.reserved s.stage = false → step s = .next t → Stage.reserved t.stage = false) ∧
  (∀ s : State, Stage.reserved s.stage = true →
    (s.turns = [] → step s = .fault (.stuckStage s.stage)) ∧
    (∀ rest, s.turns = .seq :: rest → step s = .fault (.stuckStage s.stage)) ∧
    exec .start s = .next s ∧
    (∃ t, exec .reset s = .next t ∧ t.stage = Stage.idle) ∧
    ∀ t, step s = .next t → t.stage = s.stage ∨ ∃ w rest, s.turns = .lines w :: rest ∧ w.rst = true)

/-- R115: the sequencer's step table. A step from an operation's code ends in the code of its successor, of which CHK alone
has two, DRV for a valid FilterSpec and ERR else; in a resting state there is no step, which the model's sequencer turn
answers with nothing changed (but the turn taken): the model's reading, notes/assumptions/8.md. -/
def Obligations.SequencerFollowsTheTable : Prop :=
  (∀ s t : State, SequencersTurn s → step s = .next t →
    (s.stage = Stage.chk → ∀ fs f0 q, s.fs = some fs → s.f0 = some f0 → s.qf = some q →
      t.stage = if filterSpecOk Config.num fs f0 q then Stage.drv else Stage.err) ∧
    (s.stage = Stage.drv → t.stage = Stage.nrm) ∧ (s.stage = Stage.nrm → t.stage = Stage.ugn) ∧
    (s.stage = Stage.ugn → t.stage = Stage.qb0) ∧ (s.stage = Stage.qb0 → t.stage = Stage.qb1) ∧
    (s.stage = Stage.qb1 → t.stage = Stage.qb2) ∧ (s.stage = Stage.qb2 → t.stage = Stage.qa1) ∧
    (s.stage = Stage.qa1 → t.stage = Stage.qa2) ∧ (s.stage = Stage.qa2 → t.stage = Stage.emit) ∧
    (s.stage = Stage.emit → t.stage = Stage.done)) ∧
  (∀ s : State, s.stage = Stage.idle ∨ s.stage = Stage.done ∨ s.stage = Stage.err →
    (s.turns = [] → step s = .next s) ∧ ∀ rest, s.turns = .seq :: rest → step s = .next { s with turns := rest })

/-- R9: the machine of exec and step is the machine over any parameters, at the hardware's own. -/
def Obligations.HardwareIsAnInstance : Prop :=
  (∀ (i : Instr) (s : State), execWith Config.hw i s = exec i s) ∧ ∀ s : State, stepWith Config.hw s = step s

/-! ### What each operation does -/

/-- R70, R131, R132, R134: CHK completes wherever the latches are written. The four tests are independent; when all hold
nothing but STAGE is written; otherwise ERRCAUSE has one bit per test that failed, ERR is set, BUSY cleared, STAGE is ERR
and nothing else is written. -/
def Obligations.ChkTestsTheFilterSpec : Prop :=
  ∀ (s : State) (fs f0 q : NumTerm), s.fs = some fs → s.f0 = some f0 → s.qf = some q →
    ∀ okfs okf0 oknyq okq : Bool,
      okfs = (Config.num.finite fs && Config.num.lt (NumTerm.ofInt 0) fs) →
      okf0 = (Config.num.finite f0 && Config.num.lt (NumTerm.ofInt 0) f0) →
      oknyq = (Config.num.finite fs && Config.num.finite f0 &&
        Config.num.lt f0 (.div fs (NumTerm.ofInt 2))) →
      okq = (Config.num.finite q && Config.num.lt (NumTerm.ofInt 0) q) →
      ((okfs && okf0 && oknyq && okq) = true → exec .chk s = .next { s with stage := Stage.drv }) ∧
      ((okfs && okf0 && oknyq && okq) = false →
        ∃ c : CauseCode, c.getLsbD 0 = !okfs ∧ c.getLsbD 1 = !okf0 ∧ c.getLsbD 2 = !oknyq ∧ c.getLsbD 3 = !okq ∧
          exec .chk s = .next
            { s with errcause := c, status := { s.status with err := true, busy := false }, stage := Stage.err })

/-- R70: CHK decides a FilterSpec by the document's preconditions on the reals it denotes, over any parameters: DRV when
0 < fs, 0 < f0, f0 < fs/2 and 0 < Q, all of them finite, and ERR with a cause otherwise. Asked of NUM by name: that it
halves fs exactly. -/
def Obligations.ChkDecidesThePreconditions : Prop :=
  ∀ (P : Params) (s : State) (fs f0 q : NumTerm), s.fs = some fs → s.f0 = some f0 → s.qf = some q → Halves P.num fs →
    ∀ valid : Prop,
      (valid ↔ P.num.finite fs = true ∧ P.num.finite f0 = true ∧ P.num.finite q = true ∧ 0 < P.num.val fs ∧
        0 < P.num.val f0 ∧ P.num.val f0 < P.num.val fs / 2 ∧ 0 < P.num.val q) →
      (valid → execWith P .chk s = .next { s with stage := Stage.drv }) ∧
      (¬valid → ∃ t, execWith P .chk s = .next t ∧ t.stage = Stage.err ∧ t.status.err = true ∧ t.errcause ≠ 0#4)

/-- R70, 95_test_vectors.md section 2.1: a FilterSpec of rationals, over any parameters whose NUM, by name, holds the three
exactly and halves fs exactly: CHK decides it by the preconditions over the rationals. -/
def Obligations.ChkDecidesRationalFilterSpecs : Prop :=
  ∀ (P : Params) (s : State) (a c e : Int) (b d f : Nat),
    Holds P.num a b → Holds P.num c d → Holds P.num e f → Halves P.num (.lit a b) →
    s.fs = some (.lit a b) → s.f0 = some (.lit c d) → s.qf = some (.lit e f) →
    ((0 < (a : ℚ) / b ∧ 0 < (c : ℚ) / d ∧ (c : ℚ) / d < (a : ℚ) / b / 2 ∧ 0 < (e : ℚ) / f) →
      execWith P .chk s = .next { s with stage := Stage.drv }) ∧
    (¬(0 < (a : ℚ) / b ∧ 0 < (c : ℚ) / d ∧ (c : ℚ) / d < (a : ℚ) / b / 2 ∧ 0 < (e : ℚ) / f) →
      ∃ t, execWith P .chk s = .next t ∧ t.stage = Stage.err ∧ t.status.err = true ∧ t.errcause ≠ 0#4)

/-- R71, R72: DRV on a FilterSpec that passes CHK writes W0, ALPHA and the six analog coefficients by the document's
formulas, in its order of evaluation, then STAGE, and nothing else. -/
def Obligations.DrvDerivesTheAnalogCoefficients : Prop :=
  ∀ (s : State) (fs f0 q w0 alpha : NumTerm), s.fs = some fs → s.f0 = some f0 → s.qf = some q →
    filterSpecOk Config.num fs f0 q = true →
    w0 = .div (.mul (.mul (NumTerm.ofInt 2) .pi) f0) fs → alpha = .div (.sin w0) (.mul (NumTerm.ofInt 2) q) →
    exec .drv s = .next
      { s with
        w0 := some w0
        alpha := some alpha
        b0 := some alpha
        b1 := some (NumTerm.ofInt 0)
        b2 := some (.neg alpha)
        a0 := some (.add (NumTerm.ofInt 1) alpha)
        a1 := some (.neg (.mul (NumTerm.ofInt 2) (.cos w0)))
        a2 := some (.sub (NumTerm.ofInt 1) alpha)
        stage := Stage.nrm }

/-- R74: on a FilterSpec that does not pass CHK, DRV has no meaning, and the model refuses it by name. -/
def Obligations.DrvHasNoMeaningOnAnInvalidFilterSpec : Prop :=
  ∀ (P : Params) (s : State) (fs f0 q : NumTerm), s.fs = some fs → s.f0 = some f0 → s.qf = some q →
    filterSpecOk P.num fs f0 q = false → execWith P .drv s = .refused .invalidFilterSpec

/-- R80: NRM writes the five quotients by A0 and STAGE, and nothing else. -/
def Obligations.NrmDividesByA0 : Prop :=
  ∀ (s : State) (b0 b1 b2 a0 a1 a2 : NumTerm), s.b0 = some b0 → s.b1 = some b1 → s.b2 = some b2 →
    s.a0 = some a0 → s.a1 = some a1 → s.a2 = some a2 →
    exec .nrm s = .next
      { s with
        n := ⟨some (.div b0 a0), some (.div b1 a0), some (.div b2 a0), some (.div a1 a0), some (.div a2 a0)⟩
        stage := Stage.ugn }

/-- R82, R136: UGN with UG = 0 writes only STAGE; with UG = 1 it writes the gain at W0 to G and then, if the gain is exactly
zero, sets DEGEN and leaves N alone, and otherwise divides N[0], N[1], N[2], and only those, by it. -/
def Obligations.UgnRescalesTheNumerator : Prop :=
  (∀ s : State, s.ug = false → exec .ugn s = .next { s with stage := Stage.qb0 }) ∧
  (∀ (s : State) (w0 g n0 n1 n2 n3 n4 : NumTerm), s.ug = true → s.w0 = some w0 →
    s.n = ⟨some n0, some n1, some n2, some n3, some n4⟩ → g = .gainmag n0 n1 n2 n3 n4 w0 →
    exec .ugn s = .next
      (if Config.num.isZero g then
        { s with g := some g, status := { s.status with degen := true }, stage := Stage.qb0 }
      else
        { s with
          g := some g
          n := ⟨some (.div n0 g), some (.div n1 g), some (.div n2 g), some n3, some n4⟩
          stage := Stage.qb0 }))

/-- R90, R91, R93, R96 to R101, R135: QB0, QB1, QB2, QA1, QA2 complete wherever their coefficient is written. They write
the word, the error and the flag of their coefficient and STAGE, and nothing else of the block: for a finite coefficient
the rounded value clamped to [-32768, 32767], its error after the clamp, and the flag exactly when the clamp changed it;
for one that is not finite a free word, flagged. -/
def Obligations.QuantizeOperationsWriteTheirWord : Prop :=
  ∀ (i : Instr) (c : Coef) (next : StageCode), IsQuantize i c next → ∀ (s : State) (x : NumTerm), s.n.get c = some x →
    ∀ (fin : Bool) (r q : Int) (sat : Bool) (d : Nat),
      fin = Config.num.finite x →
      r = roundTie Config.roundTie (Config.num.scaled x 16384) →
      q = (if fin then max (-32768) (min r 32767) else dec16 (Config.freeWord s.draws)) →
      sat = (if fin then decide (q ≠ r) else true) →
      d = (if fin then s.draws else s.draws + 1) →
      exec i s = .next
        { s with
          q14 := s.q14.set c (some (enc16 q))
          qe := s.qe.set c (some (.sub x (.div (NumTerm.ofInt q) (NumTerm.ofInt 16384))))
          status := { s.status with sat := s.status.sat.set c sat }
          stage := next
          draws := d }

/-- R96: where a value that is not finite is quantized, nothing fixes the word: for every word there are parameters, alike
in NUM and ROUND_TIE, under which it is written. -/
def Obligations.NonFiniteWordIsFree : Prop :=
  ∀ (P : Params) (i : Instr) (c : Coef) (next : StageCode), IsQuantize i c next → ∀ (s : State) (x : NumTerm),
    s.n.get c = some x → P.num.finite x = false → ∀ w : Word,
      ∃ (free : Nat → Word) (t : State), execWith { P with freeWord := free } i s = .next t ∧
        t.q14.get c = some w ∧ t.status.sat.get c = true

/-- R105: EMIT writes TEXT, the HUMANLINE, the five PARAMLINEs, the five DIAGLINEs and the DEGENLINE in that order, sets
DONE, clears BUSY, and writes nothing else. -/
def Obligations.EmitWritesTheText : Prop :=
  ∀ (s : State) (n e : PerCoef NumTerm) (q : PerCoef Word), s.n = PerCoef.map some n → s.q14 = PerCoef.map some q →
    s.qe = PerCoef.map some e →
    exec .emit s = .next
      { s with
        text :=
          humanLine Config.hw n ++
          (paramLine .b0 q.b0 ++ paramLine .b1 q.b1 ++ paramLine .b2 q.b2 ++ paramLine .a1 q.a1 ++ paramLine .a2 q.a2) ++
          (diagLine Config.hw .b0 e.b0 s.status.sat.b0 ++ diagLine Config.hw .b1 e.b1 s.status.sat.b1 ++
            diagLine Config.hw .b2 e.b2 s.status.sat.b2 ++ diagLine Config.hw .a1 e.a1 s.status.sat.a1 ++
            diagLine Config.hw .a2 e.a2 s.status.sat.a2 ++ degenLine s.status.degen)
        status := { s.status with done := true, busy := false }
        stage := Stage.done }

/-- R16, R18, R32: an operation that needs a register that is unwritten faults. Which of several the fault names, the first
in the order of the rule's Operands line, is the model's choice, notes/assumptions/5.md. -/
def Obligations.UnwrittenOperandsFault : Prop :=
  ∀ (i : Instr) (s : State) (r : Reg), (operandsOf i s.ug).find? (fun r => !s.written r) = some r →
    exec i s = .fault (.unwritten r)

/-- R18: where its operands are written, and for DRV valid (R70, R74), every operation answers a next state: no operation
is stuck and none is refused. -/
def Obligations.OperationsCompleteOnWrittenOperands : Prop :=
  ∀ (i : Instr) (s : State), (∀ r ∈ operandsOf i s.ug, s.written r = true) →
    (i = .drv → ∀ fs f0 q, s.fs = some fs → s.f0 = some f0 → s.qf = some q →
      filterSpecOk Config.num fs f0 q = true) →
    ∃ t, exec i s = .next t

/-- R36, R116: RESET, in every state, puts every register at its reset value. -/
def Obligations.ResetClearsEveryRegister : Prop :=
  ∀ s : State, ∃ t, exec .reset s = .next t ∧
    t.stage = 0b0000#4 ∧ statusWord t.status = 0#16 ∧ t.errcause = 0b0000#4 ∧ t.ug = false ∧
    t.fs = none ∧ t.f0 = none ∧ t.qf = none ∧ t.w0 = none ∧ t.alpha = none ∧ t.b0 = none ∧ t.b1 = none ∧ t.b2 = none ∧
    t.a0 = none ∧ t.a1 = none ∧ t.a2 = none ∧ (∀ i, t.n.get i = none) ∧ t.g = none ∧ (∀ i, t.q14.get i = none) ∧
    (∀ i, t.qe.get i = none) ∧ t.text = []

/-- R117: START in IDLE, DONE or ERR latches the four ports together, leaves BUSY alone set, clears ERRCAUSE, unwrites every
other data register, empties TEXT, and goes to CHK. -/
def Obligations.StartBeginsARun : Prop :=
  ∀ s : State, s.stage = Stage.idle ∨ s.stage = Stage.done ∨ s.stage = Stage.err → ∃ t, exec .start s = .next t ∧
    t.fs = some s.wires.fsIn ∧ t.f0 = some s.wires.f0In ∧ t.qf = some s.wires.qIn ∧ t.ug = s.wires.ugIn ∧
    t.stage = Stage.chk ∧ statusWord t.status = 0x0001#16 ∧ t.errcause = 0b0000#4 ∧
    t.w0 = none ∧ t.alpha = none ∧ t.b0 = none ∧ t.b1 = none ∧ t.b2 = none ∧ t.a0 = none ∧ t.a1 = none ∧ t.a2 = none ∧
    (∀ i, t.n.get i = none) ∧ t.g = none ∧ (∀ i, t.q14.get i = none) ∧ (∀ i, t.qe.get i = none) ∧ t.text = []

/-- R118: a start request while STAGE holds an operation's code, or a reserved one, is ignored: nothing changes. -/
def Obligations.StartIsIgnoredDuringARun : Prop :=
  ∀ s : State, s.stage ≠ Stage.idle → s.stage ≠ Stage.done → s.stage ≠ Stage.err → exec .start s = .next s

/-- R119, R120: `status`, `errcause` and `stage` read in every state; a data port reads its register in DONE, where it is
written, and carries nothing where it is unwritten (R32; TEXT is empty when unwritten, R33); no read writes anything. R120 gives no value to a read of any other data port and lets a model fault or refuse
it: that such a read faults, and that a data port carries nothing outside DONE even where its register is written, is the
model's choice, notes/assumptions/14.md. -/
def Obligations.HostReads : Prop :=
  (∀ s : State, readPort s .status = some (.status (statusWord s.status)) ∧
    readPort s .errcause = some (.errcause s.errcause) ∧ readPort s .stage = some (.stage s.stage)) ∧
  (∀ s : State, s.stage = Stage.done →
    (∀ i w, s.q14.get i = some w → readPort s (.q14 i) = some (.word w)) ∧
    (∀ i x, s.n.get i = some x → readPort s (.nOut i) = some (.num x)) ∧
    (∀ i x, s.qe.get i = some x → readPort s (.qeOut i) = some (.num x)) ∧
    (∀ x, s.g = some x → readPort s .gOut = some (.num x)) ∧
    (s.text ≠ [] → readPort s .text = some (.text s.text))) ∧
  (∀ (s : State) (p : Port), p.isData = true → s.stage ≠ Stage.done → readPort s p = none) ∧
  (∀ s : State,
    (∀ i, s.q14.get i = none → readPort s (.q14 i) = none) ∧ (∀ i, s.n.get i = none → readPort s (.nOut i) = none) ∧
    (∀ i, s.qe.get i = none → readPort s (.qeOut i) = none) ∧ (s.g = none → readPort s .gOut = none) ∧
    (s.text = [] → readPort s .text = none)) ∧
  (∀ (s : State) (p : Port) (rest : List Turn), s.turns = .read p :: rest →
    (∀ v, readPort s p = some v → step s = .next { s with turns := rest }) ∧
    (readPort s p = none → step s = .fault (.portUndefined p)))

/-! ### What each operation leaves alone (R34) -/

/-- R34: CHK touches only STAGE, ERR, BUSY and ERRCAUSE. -/
def Obligations.ChkFrame : Prop :=
  ∀ s t : State, exec .chk s = .next t →
    SameLatches s t ∧ SameAnalog s t ∧ t.n = s.n ∧ t.g = s.g ∧ t.q14 = s.q14 ∧ t.qe = s.qe ∧ t.text = s.text ∧
    t.status.done = s.status.done ∧ t.status.degen = s.status.degen ∧ t.status.sat = s.status.sat ∧
    SameOutside s t ∧ t.draws = s.draws

/-- R34: DRV touches only W0, ALPHA, the six analog coefficients and STAGE; NRM only N and STAGE. -/
def Obligations.DrvAndNrmFrame : Prop :=
  (∀ s t : State, exec .drv s = .next t →
    SameLatches s t ∧ t.n = s.n ∧ t.g = s.g ∧ t.q14 = s.q14 ∧ t.qe = s.qe ∧ t.status = s.status ∧
    t.errcause = s.errcause ∧ t.text = s.text ∧ SameOutside s t ∧ t.draws = s.draws) ∧
  (∀ s t : State, exec .nrm s = .next t →
    SameLatches s t ∧ SameAnalog s t ∧ t.g = s.g ∧ t.q14 = s.q14 ∧ t.qe = s.qe ∧ t.status = s.status ∧
    t.errcause = s.errcause ∧ t.text = s.text ∧ SameOutside s t ∧ t.draws = s.draws)

/-- R34, R82: UGN touches only G, N[0], N[1], N[2], DEGEN and STAGE; the pole locations N[3], N[4] it never writes. -/
def Obligations.UgnFrame : Prop :=
  ∀ s t : State, exec .ugn s = .next t →
    SameLatches s t ∧ SameAnalog s t ∧ t.n.get .a1 = s.n.get .a1 ∧ t.n.get .a2 = s.n.get .a2 ∧ t.q14 = s.q14 ∧
    t.qe = s.qe ∧ t.status.busy = s.status.busy ∧ t.status.done = s.status.done ∧ t.status.err = s.status.err ∧
    t.status.sat = s.status.sat ∧ t.errcause = s.errcause ∧ t.text = s.text ∧ SameOutside s t ∧ t.draws = s.draws

/-- R34: a quantize operation touches only Q14[i], QE[i], SAT[i] and STAGE of the block. -/
def Obligations.QuantizeFrame : Prop :=
  ∀ (i : Instr) (c : Coef) (next : StageCode), IsQuantize i c next → ∀ s t : State, exec i s = .next t →
    SameLatches s t ∧ SameAnalog s t ∧ t.n = s.n ∧ t.g = s.g ∧
    (∀ j, j ≠ c → t.q14.get j = s.q14.get j ∧ t.qe.get j = s.qe.get j ∧
      t.status.sat.get j = s.status.sat.get j) ∧
    t.status.busy = s.status.busy ∧ t.status.done = s.status.done ∧ t.status.err = s.status.err ∧
    t.status.degen = s.status.degen ∧ t.errcause = s.errcause ∧ t.text = s.text ∧ SameOutside s t

/-- R34: EMIT touches only TEXT, DONE, BUSY and STAGE. -/
def Obligations.EmitFrame : Prop :=
  ∀ s t : State, exec .emit s = .next t →
    SameLatches s t ∧ SameAnalog s t ∧ t.n = s.n ∧ t.g = s.g ∧ t.q14 = s.q14 ∧ t.qe = s.qe ∧
    t.status.err = s.status.err ∧ t.status.degen = s.status.degen ∧ t.status.sat = s.status.sat ∧
    t.errcause = s.errcause ∧ SameOutside s t ∧ t.draws = s.draws

/-- RESET and START leave what is no register of the block: the wires, the turns to come, the count of drawn words. The
model's choice, notes/assumptions/7.md and 10.md. -/
def Obligations.HostOperationsKeepWhatIsOutside : Prop :=
  ∀ (i : Instr) (s t : State), i = .reset ∨ i = .start → exec i s = .next t → SameOutside s t ∧ t.draws = s.draws

/-- R21: no operation but RESET and START writes FS, F0, QF or UG, so no sequencer turn does. -/
def Obligations.FilterSpecIsImmutable : Prop :=
  (∀ (i : Instr) (s t : State), i ≠ .reset → i ≠ .start → exec i s = .next t → SameLatches s t) ∧
  (∀ (s t : State), SequencersTurn s → step s = .next t → SameLatches s t)

/-! ### Encodings -/

/-- R56: the bits of STATUSWORD. -/
def Obligations.StatusWordBits : Prop :=
  ∀ f : Status, (statusWord f).getLsbD 0 = f.busy ∧ (statusWord f).getLsbD 1 = f.done ∧
    (statusWord f).getLsbD 2 = f.err ∧ (statusWord f).getLsbD 3 = f.degen ∧
    (statusWord f).getLsbD 4 = f.sat.get .b0 ∧ (statusWord f).getLsbD 5 = f.sat.get .b1 ∧
    (statusWord f).getLsbD 6 = f.sat.get .b2 ∧ (statusWord f).getLsbD 7 = f.sat.get .a1 ∧
    (statusWord f).getLsbD 8 = f.sat.get .a2 ∧ ∀ k, 9 ≤ k → (statusWord f).getLsbD k = false

/-- R52: enc16 is the integer mod 2^16, dec16 its signed reading, and each undoes the other. -/
def Obligations.WordsAndIntegersAgree : Prop :=
  (∀ n : Int, -32768 ≤ n → n ≤ 32767 → ((enc16 n).toNat : Int) = n % 65536 ∧ dec16 (enc16 n) = n) ∧
  (∀ p : Word, enc16 (dec16 p) = p ∧ -32768 ≤ dec16 p ∧ dec16 p ≤ 32767)

/-- R51: the fields of a Q14 word, n = -32768·S + 16384·I + F. -/
def Obligations.Q14WordFields : Prop :=
  ∀ p : Word, dec16 p = -32768 * (if p.getLsbD 15 then 1 else 0) + 16384 * (if p.getLsbD 14 then 1 else 0)
    + (p.toNat % 16384 : Nat)

/-! ### The quantizer (in every NUM, for every ROUND_TIE) -/

/-- R14: `round_t(v)` is the integer nearest to v, and at v = k + 1/2 what ROUND_TIE says. -/
def Obligations.RoundsToNearest : Prop :=
  (∀ (t : RoundTie) (v : ℝ), |(roundTie t (Scaled.ofReal v) : ℝ) - v| ≤ 1 / 2) ∧
  (∀ (k : Int) (v : ℝ), v = k + 1 / 2 →
    (Even (roundTie .halfEven (Scaled.ofReal v)) ∧
      (roundTie .halfEven (Scaled.ofReal v) = k ∨ roundTie .halfEven (Scaled.ofReal v) = k + 1)) ∧
    (0 < v → roundTie .halfAway (Scaled.ofReal v) = k + 1) ∧
    (v < 0 → roundTie .halfAway (Scaled.ofReal v) = k) ∧
    roundTie .halfUp (Scaled.ofReal v) = k + 1)

/-- R95 (a), (b), (c), (d), (e), in every NUM: the integer is in range and is the rounded value clamped, never wrapped;
quantize is monotone in the real its operand denotes; it is exact on the grid wherever NUM holds the grid value exactly,
as EXACT does; and a zero, a negative one too, quantizes to 0. -/
def Obligations.QuantizeRangeOrderAndGrid : Prop :=
  (∀ (P : Params) (x : NumTerm), -32768 ≤ (quantize P x).1 ∧ (quantize P x).1 ≤ 32767 ∧
    (P.num.finite x = true → (quantize P x).1 =
      max (-32768) (min (roundTie P.tie (Scaled.ofReal (P.num.val x * 16384))) 32767))) ∧
  (∀ (P : Params) (x y : NumTerm), P.num.finite x = true → P.num.finite y = true → P.num.val x ≤ P.num.val y →
    (quantize P x).1 ≤ (quantize P y).1) ∧
  (∀ (P : Params) (n : Int), -32768 ≤ n → n ≤ 32767 → P.num.finite (dequantize n) = true →
    P.num.val (dequantize n) = n / 16384 → quantize P (dequantize n) = (n, false)) ∧
  (∀ (port : Nat → ℝ) (t : RoundTie) (free : Nat → Word) (n : Int), -32768 ≤ n → n ≤ 32767 →
    quantize (Exact.params port t free) (dequantize n) = (n, false)) ∧
  (∀ (P : Params) (x : NumTerm), P.num.isZero x = true → quantize P x = (0, false))

/-- R94, in every NUM: the flag is set exactly when the clamp changed the rounded value; and when that is, in terms of the
real the operand denotes. -/
def Obligations.SaturationThresholds : Prop :=
  ∀ (P : Params) (x : NumTerm) (v : ℝ), P.num.finite x = true → v = P.num.val x →
    ((quantize P x).2 = true ↔ (quantize P x).1 ≠ roundTie P.tie (Scaled.ofReal (v * 16384))) ∧
    ((quantize P x).2 = true ↔
      1.999969482421875 ≤ v ∨ v < -2.000030517578125 ∨ (v = -2.000030517578125 ∧ P.tie = .halfAway))

/-- R95 (f), (g), (h): the distance from the real the operand denotes to the one the word stands for is, in every NUM, at
most half an LSB when not saturated, with equality only at a tie; at most one LSB for |x| ≤ 2 in any case; and when
saturated the whole distance to the end of the range. In EXACT that distance is the value of QE (R93). -/
def Obligations.QuantizationError : Prop :=
  (∀ (P : Params) (x : NumTerm) (v e : ℝ) (q : Int) (sat : Bool), P.num.finite x = true → quantize P x = (q, sat) →
    v = P.num.val x → e = v - q / 16384 →
    (sat = false → |e| ≤ 1 / 2 ^ 15 ∧ (|e| = 1 / 2 ^ 15 → Int.fract (v * 16384) = 1 / 2)) ∧
    (|v| ≤ 2 → |e| ≤ 1 / 2 ^ 14) ∧
    (sat = true → (0 < v ∧ e = v - 1.99993896484375) ∨ (v < 0 ∧ e = v + 2))) ∧
  (∀ (port : Nat → ℝ) (x : NumTerm) (q : Int), Exact.val port (qerr x q) = Exact.val port x - q / 16384)

/-- R95 (i), in every NUM: odd symmetry where neither value saturates, under half_even and half_away; it fails under half_up
at 2^-15, and at 2.0 for every tie rule. -/
def Obligations.QuantizeOddSymmetry : Prop :=
  (∀ (P : Params) (x y : NumTerm), P.tie ≠ .halfUp → P.num.finite x = true → P.num.finite y = true →
    P.num.val y = -P.num.val x → (quantize P x).2 = false → (quantize P y).2 = false →
    (quantize P y).1 = -(quantize P x).1) ∧
  (∀ (P : Params) (x y : NumTerm), P.tie = .halfUp → P.num.finite x = true → P.num.finite y = true →
    P.num.val x = 1 / 2 ^ 15 → P.num.val y = -(1 / 2 ^ 15) → (quantize P x).1 = 1 ∧ (quantize P y).1 = 0) ∧
  (∀ P : Params, (quantize P (NumTerm.ofInt 2)).1 = 32767 ∧ (quantize P (NumTerm.ofInt (-2))).1 = -32768)

/-! ### The text -/

/-- R105: TEXT is ASCII and has twelve lines, each ended by a line feed. -/
def Obligations.TextIsTwelveAsciiLines : Prop :=
  ∀ (P : Params) (n e : PerCoef NumTerm) (q : PerCoef Word) (sat : PerCoef Bool) (degen : Bool),
    (outputText P n q e sat degen).count 0x0A#8 = 12 ∧
    (outputText P n q e sat degen).getLast? = some 0x0A#8 ∧
    ∀ b ∈ outputText P n q e sat degen, b.toNat < 128

/-- R107: reading a literal back recovers the integer, for every word. -/
def Obligations.LiteralsReadBack : Prop := ∀ p : Word, readLit (lit (dec16 p)) = some (dec16 p)

/-- R61: `fmt` prints a sign, `-` exactly when the rounded integer M is negative, digits, a point, and exactly d digits, and
those digits are |M|; for a value that is not finite it prints the three characters `nan`. -/
def Obligations.FixedPointPrintsTheRoundedInteger : Prop :=
  (∀ (P : Params) (x : NumTerm) (d : Nat) (m : Int), 0 < d → P.num.finite x = true →
    m = roundTie P.tie (Scaled.ofReal (P.num.val x * 10 ^ d)) →
    ∃ (sign : Byte) (whole frac : List Byte), fmt P x d = sign :: (whole ++ 0x2E#8 :: frac) ∧
      sign = (if m < 0 then 0x2D#8 else 0x2B#8) ∧ whole ≠ [] ∧ frac.length = d ∧
      readDigits 0 (whole ++ frac) = some m.natAbs) ∧
  (∀ (P : Params) (x : NumTerm) (d : Nat), P.num.finite x = false → fmt P x d = [0x6E#8, 0x61#8, 0x6E#8])

/-! ### Every reachable state -/

/-- The state after RESET meets the invariant (R36). -/
def Obligations.ResetMeetsTheInvariant : Prop := Inv Config.hw State.reset

/-- Every step keeps the invariant: which registers are written and which flags are set follows from STAGE and UG, and every
written register holds what the rules compute from the latched FilterSpec. Of the machine, and of the machine over any
parameters. -/
def Obligations.StepKeepsTheInvariant : Prop :=
  (∀ s t : State, Inv Config.hw s → step s = .next t → Inv Config.hw t) ∧
  (∀ (P : Params) (s t : State), Inv P s → stepWith P s = .next t → Inv P t)

/-- R18, R32: from a state that meets the invariant the step does not stop, but for a host read of a port with no defined
value: it reads no unwritten register, runs DRV on no invalid FilterSpec, is not stuck. One step; that the next state meets the
invariant again is StepKeepsTheInvariant. -/
def Obligations.StepFromTheInvariantDoesNotStop : Prop :=
  ∀ s : State, Inv Config.hw s → (∀ p rest, s.turns = .read p :: rest → readPort s p ≠ none) → ∃ t, step s = .next t

/-- R124: every run ends after at most ten steps. (A run that ends sooner then rests, where the model's sequencer turn changes
nothing: notes/assumptions/8.md.) -/
def Obligations.EveryRunEnds : Prop :=
  ∀ s : State, Inv Config.hw s → s.turns = [] → ∃ t, runWith Config.hw 10 s = .next t ∧ Stage.resting t.stage = true

/-- R29: within a run ERR, DEGEN, SAT[i] and DONE are only ever set, never cleared: no stage operation clears one. -/
def Obligations.EventFlagsAreSticky : Prop :=
  ∀ s t : State, Shape s → SequencersTurn s → step s = .next t →
    (s.status.done = true → t.status.done = true) ∧ (s.status.err = true → t.status.err = true) ∧
    (s.status.degen = true → t.status.degen = true) ∧
    (∀ i, s.status.sat.get i = true → t.status.sat.get i = true) ∧
    ¬(t.status.done = true ∧ t.status.err = true)

/-! ### Whole runs -/

/-- R121, R122: on a valid FilterSpec PIPELINE ends in DONE with every register of the block as the rules compute it. -/
def Obligations.PipelineDesignsAValidFilterSpec : Prop :=
  ∀ (P : Params) (x : FilterSpec) (s : State), Stage.resting s.stage = true →
    filterSpecOk P.num x.fs x.f0 x.q = true →
    ∃ (u : State) (q : PerCoef Word) (e : PerCoef NumTerm), pipelineWith P x s = .next u ∧ u.stage = Stage.done ∧
      u.status.done = true ∧ u.status.busy = false ∧ u.status.err = false ∧ u.errcause = 0#4 ∧
      u.fs = some x.fs ∧ u.f0 = some x.f0 ∧ u.qf = some x.q ∧ u.ug = x.ug ∧
      u.w0 = some (w0Formula x.fs x.f0) ∧ u.alpha = some (alphaFormula (w0Formula x.fs x.f0) x.q) ∧
      u.b0 = some (alphaFormula (w0Formula x.fs x.f0) x.q) ∧ u.b1 = some (NumTerm.ofInt 0) ∧
      u.b2 = some (.neg (alphaFormula (w0Formula x.fs x.f0) x.q)) ∧
      u.a0 = some (.add (NumTerm.ofInt 1) (alphaFormula (w0Formula x.fs x.f0) x.q)) ∧
      u.a1 = some (.neg (.mul (NumTerm.ofInt 2) (.cos (w0Formula x.fs x.f0)))) ∧
      u.a2 = some (.sub (NumTerm.ofInt 1) (alphaFormula (w0Formula x.fs x.f0) x.q)) ∧
      u.n = PerCoef.map some (finalCoefs P.num x.fs x.f0 x.q x.ug) ∧ u.q14 = PerCoef.map some q ∧
      u.qe = PerCoef.map some e ∧ u.g = (if x.ug then some (gainOf x.fs x.f0 x.q) else none) ∧
      u.status.degen = (x.ug && P.num.isZero (gainOf x.fs x.f0 x.q)) ∧
      (∀ i, Quantized P ((finalCoefs P.num x.fs x.f0 x.q x.ug).get i) (q.get i) (u.status.sat.get i) ∧
        e.get i = qerr ((finalCoefs P.num x.fs x.f0 x.q x.ug).get i) (dec16 (q.get i))) ∧
      u.text = outputText P (finalCoefs P.num x.fs x.f0 x.q x.ug) q e u.status.sat u.status.degen

/-- R121, R131: on an invalid FilterSpec PIPELINE ends in ERR with the causes, no coefficient register written and no text;
and ParameterRangeError is raised on no other (the FilterSpecs of PipelineDesignsAValidFilterSpec end with ERR = 0). The
run's one step is followed by turns in ERR that change nothing: notes/assumptions/8.md. -/
def Obligations.PipelineRejectsAnInvalidFilterSpec : Prop :=
  ∀ (P : Params) (x : FilterSpec) (s : State), Stage.resting s.stage = true →
    filterSpecOk P.num x.fs x.f0 x.q = false →
    ∃ u : State, pipelineWith P x s = .next u ∧ u.stage = Stage.err ∧ u.status.err = true ∧ u.status.busy = false ∧
      u.status.done = false ∧ u.errcause = causeOf P.num x.fs x.f0 x.q ∧ u.errcause ≠ 0#4 ∧
      u.w0 = none ∧ u.alpha = none ∧ u.b0 = none ∧ u.b1 = none ∧ u.b2 = none ∧ u.a0 = none ∧ u.a1 = none ∧ u.a2 = none ∧
      (∀ i, u.n.get i = none) ∧ u.g = none ∧ (∀ i, u.q14.get i = none) ∧ (∀ i, u.qe.get i = none) ∧ u.text = []

/-- R37, R122, R151: the result of a run does not depend on the state before START: whatever two resting states it begins
from, the end is the same, provided the free words still to be drawn are the same, which the model counts
(notes/assumptions/10.md); and where every coefficient is finite, so that no word is drawn, a second run on the same
FilterSpec gives the same five words, bit for bit. -/
def Obligations.PipelineIsAPureFunction : Prop :=
  (∀ (P : Params) (x : FilterSpec) (s s' : State), Stage.resting s.stage = true → Stage.resting s'.stage = true →
    s.draws = s'.draws → pipelineWith P x s = pipelineWith P x s') ∧
  (∀ (P : Params) (x : FilterSpec) (s s' u u' : State), Stage.resting s.stage = true → Stage.resting s'.stage = true →
    pipelineWith P x s = .next u → pipelineWith P x s' = .next u' →
    (∀ i, P.num.finite ((finalCoefs P.num x.fs x.f0 x.q x.ug).get i) = true) →
    u'.q14 = u.q14 ∧ u'.qe = u.qe ∧ u'.status = u.status ∧ u'.text = u.text)

/-- R73 (f): B1 is the constant 0, and B1N and B1_Q14 are 0 at the end of a run, in a NUM of which "0 divided by a nonzero
finite value is 0" (R80) is asked by name (ZeroQuotient, notes/assumptions/3.md) and in which a0, and the gain where it is
divided by, is finite and a0 is not zero. -/
def Obligations.B1StaysZero : Prop :=
  ∀ (P : Params) (x : FilterSpec) (s u : State) (a0 : NumTerm), ZeroQuotient P.num → Stage.resting s.stage = true →
    pipelineWith P x s = .next u → u.stage = Stage.done → u.a0 = some a0 →
    P.num.finite a0 = true → P.num.isZero a0 = false →
    (x.ug = true → P.num.finite (gainOf x.fs x.f0 x.q) = true) →
    u.b1 = some (NumTerm.ofInt 0) ∧ (∃ y, u.n.b1 = some y ∧ P.num.isZero y = true) ∧ u.q14.b1 = some 0#16 ∧
      u.status.sat.b1 = false

/-- R12 (e): NUM_B1 asked by name, of runs from reset, B1, B1N and B1_Q14 are exactly zero and unflagged at the end of a
successful run from any resting state (R37, R122: a run does not depend on what was before it). -/
def Obligations.B1IsZeroByNumB1 : Prop :=
  ∀ (P : Params) (x : FilterSpec) (s u : State), NumB1 P → Stage.resting s.stage = true → pipelineWith P x s = .next u →
    u.stage = Stage.done → ∃ b n, u.b1 = some b ∧ u.n.b1 = some n ∧ P.num.isZero b = true ∧ P.num.isZero n = true ∧
      u.q14.b1 = some 0#16 ∧ u.status.sat.b1 = false

/-- R12 (b), (c): a NUM with NUM_GAIN or NUM_A1 accepts the reference FilterSpec, so AdmittedNUM asks no more of the
hardware's than R12 does: notes/assumptions/3.md. -/
def Obligations.NamedPropertiesNeedTheReferenceSpecValid : Prop :=
  ∀ P : Params, NumGain P ∨ NumA1 P →
    filterSpecOk P.num (NumTerm.ofInt 1000000) (NumTerm.ofInt 30000) (NumTerm.ofInt 3) = true ∧
    P.num.lt (NumTerm.ofInt 0) (NumTerm.ofInt 1000000) = true ∧
    P.num.lt (NumTerm.ofInt 30000) (.div (NumTerm.ofInt 1000000) (NumTerm.ofInt 2)) = true

/-! ### Exact arithmetic -/

/-- R73: what DRV's results satisfy in EXACT on a valid FilterSpec. -/
def Obligations.ExactAnalogCoefficients : Prop :=
  ∀ (port : Nat → ℝ) (t : RoundTie) (free : Nat → Word) (x : FilterSpec) (s : State), s.fs = some x.fs →
    s.f0 = some x.f0 → s.qf = some x.q → Exact.Valid port x →
    ∃ (u : State) (w0 alpha b0 b1 b2 a0 a1 a2 : NumTerm),
      execWith (Exact.params port t free) .drv s = .next u ∧
      u.w0 = some w0 ∧ u.alpha = some alpha ∧ u.b0 = some b0 ∧ u.b1 = some b1 ∧ u.b2 = some b2 ∧ u.a0 = some a0 ∧
      u.a1 = some a1 ∧ u.a2 = some a2 ∧
      0 < Exact.val port w0 ∧ Exact.val port w0 < Real.pi ∧
      0 < Real.sin (Exact.val port w0) ∧ 0 < Exact.val port alpha ∧
      Exact.val port alpha ≤ 1 / (2 * Exact.val port x.q) ∧
      Exact.val port a0 = 1 + Exact.val port alpha ∧ 1 < Exact.val port a0 ∧
      Exact.val port a2 < 1 ∧ (Exact.val port a2 < 0 ↔ 1 < Exact.val port alpha) ∧
      (Exact.val port a2 < 0 → Exact.val port x.q < 1 / 2) ∧
      -2 < Exact.val port a1 ∧ Exact.val port a1 < 2 ∧
      Exact.val port b0 = Exact.val port alpha ∧ Exact.val port b2 = -Exact.val port b0 ∧ Exact.val port b1 = 0 ∧
      Exact.val port b0 + Exact.val port b1 + Exact.val port b2 = 0 ∧
      Exact.val port b0 - Exact.val port b1 + Exact.val port b2 = 0

/-- R83: in EXACT, on every run on a valid FilterSpec, the gain UGN computes is exactly 1, DEGEN is not set, UGN changes no
coefficient's value, and the five words do not depend on UG. -/
def Obligations.ExactGainIsOne : Prop :=
  ∀ (port : Nat → ℝ) (t : RoundTie) (free : Nat → Word) (fs f0 q : NumTerm) (s : State), Stage.resting s.stage = true →
    Exact.Valid port ⟨fs, f0, q, true⟩ →
    ∃ (u u' : State) (n n' : PerCoef NumTerm) (g : NumTerm),
      Exact.Ends port t free ⟨fs, f0, q, true⟩ s u n ∧ Exact.Ends port t free ⟨fs, f0, q, false⟩ s u' n' ∧
      u.g = some g ∧ Exact.val port g = 1 ∧ u.status.degen = false ∧ u'.g = none ∧ u'.status.degen = false ∧
      (∀ i, Exact.val port (n.get i) = Exact.val port (n'.get i)) ∧ u.q14 = u'.q14 ∧ u.status.sat = u'.status.sat

/-- R84: the closed forms of the normalized coefficients in EXACT, with or without UGN, and their bounds. -/
def Obligations.ExactClosedForms : Prop :=
  ∀ (port : Nat → ℝ) (t : RoundTie) (free : Nat → Word) (x : FilterSpec) (s : State) (w al : ℝ),
    Stage.resting s.stage = true → Exact.Valid port x →
    w = 2 * Real.pi * Exact.val port x.f0 / Exact.val port x.fs → al = Real.sin w / (2 * Exact.val port x.q) →
    ∃ (u : State) (n : PerCoef NumTerm), Exact.Ends port t free x s u n ∧
      Exact.val port n.b0 = al / (1 + al) ∧ Exact.val port n.b1 = 0 ∧ Exact.val port n.b2 = -al / (1 + al) ∧
      Exact.val port n.a1 = -2 * Real.cos w / (1 + al) ∧ Exact.val port n.a2 = (1 - al) / (1 + al) ∧
      0 < Exact.val port n.b0 ∧ Exact.val port n.b0 < 1 ∧
      -2 < Exact.val port n.a1 ∧ Exact.val port n.a1 < 2 ∧ -1 < Exact.val port n.a2 ∧ Exact.val port n.a2 < 1

/-- R85, R39 (b): in EXACT, for every valid FilterSpec, both poles of the normalized filter lie strictly inside the unit
circle, and the check the spec writes out holds. -/
def Obligations.ExactFilterIsStable : Prop :=
  ∀ (port : Nat → ℝ) (t : RoundTie) (free : Nat → Word) (x : FilterSpec) (s : State), Stage.resting s.stage = true →
    Exact.Valid port x →
    ∃ (u : State) (n : PerCoef NumTerm), Exact.Ends port t free x s u n ∧
      StabilityCheck (Exact.val port n.a1) (Exact.val port n.a2) ∧
      PolesInside (Exact.val port n.a1) (Exact.val port n.a2)

/-- R102: the words and flags a run can produce in EXACT. -/
def Obligations.ExactWordRanges : Prop :=
  ∀ (port : Nat → ℝ) (t : RoundTie) (free : Nat → Word) (x : FilterSpec) (s : State) (w al : ℝ),
    Stage.resting s.stage = true → Exact.Valid port x →
    w = 2 * Real.pi * Exact.val port x.f0 / Exact.val port x.fs → al = Real.sin w / (2 * Exact.val port x.q) →
    ∃ (u : State) (n : PerCoef NumTerm) (q : PerCoef Word), Exact.Ends port t free x s u n ∧ u.q14 = PerCoef.map some q ∧
      0 ≤ dec16 q.b0 ∧ dec16 q.b0 ≤ 16384 ∧ q.b1 = 0#16 ∧ -16384 ≤ dec16 q.b2 ∧ dec16 q.b2 ≤ 0 ∧
      -32768 ≤ dec16 q.a1 ∧ dec16 q.a1 ≤ 32767 ∧ -16384 ≤ dec16 q.a2 ∧ dec16 q.a2 ≤ 16384 ∧
      u.status.sat.b0 = false ∧ u.status.sat.b1 = false ∧ u.status.sat.b2 = false ∧ u.status.sat.a2 = false ∧
      (u.status.sat.a1 = true ↔ 1.999969482421875 ≤ -2 * Real.cos w / (1 + al))

/-- R142, R102: at the end of a run in EXACT every word stands for its coefficient to within half an LSB, unless it is A1
with its flag SAT[3] set; and the gain of the coefficients at the center frequency is 1. -/
def Obligations.ExactWordsAreFaithful : Prop :=
  ∀ (port : Nat → ℝ) (t : RoundTie) (free : Nat → Word) (x : FilterSpec) (s : State), Stage.resting s.stage = true →
    Exact.Valid port x →
    ∃ (u : State) (n : PerCoef NumTerm) (q : PerCoef Word) (w0 : NumTerm), Exact.Ends port t free x s u n ∧
      u.q14 = PerCoef.map some q ∧ u.w0 = some w0 ∧
      (∀ i, |Exact.val port (n.get i) - (dec16 (q.get i) : ℝ) / 16384| ≤ 1 / 2 ^ 15 ∨
        (i = .a1 ∧ u.status.sat.a1 = true)) ∧
      Exact.gain (Exact.val port n.b0) (Exact.val port n.b1) (Exact.val port n.b2) (Exact.val port n.a1)
        (Exact.val port n.a2) (Exact.val port w0) = 1

/-- R12 (b) to (e): EXACT has the named properties asked of an admitted NUM; the fifth, NUM_DET (a), is built into the model
(notes/assumptions/1.md), and nothing is stated of it. -/
def Obligations.ExactIsAdmitted : Prop :=
  ∀ (port : Nat → ℝ) (t : RoundTie) (free : Nat → Word),
    (∃ u, Designs (Exact.params port t free) referenceSpec u) ∧
    NumGain (Exact.params port t free) ∧ NumA1 (Exact.params port t free) ∧
    NumStable (Exact.params port t free) ∧ NumB1 (Exact.params port t free)
end

