-- ==== Sys2Proof/Laws/State.lean ====
section
/-! SUPPORT. One lemma per field per update of the state, and the small laws of a group of five registers. -/

namespace Sys2Proof.Machine

/-! ### raiseParameterRangeError -/
@[simp] theorem raiseParameterRangeError_fs (c : CauseCode) (s : State) :
    (raiseParameterRangeError c s).fs = s.fs := rfl
@[simp] theorem raiseParameterRangeError_f0 (c : CauseCode) (s : State) :
    (raiseParameterRangeError c s).f0 = s.f0 := rfl
@[simp] theorem raiseParameterRangeError_qf (c : CauseCode) (s : State) :
    (raiseParameterRangeError c s).qf = s.qf := rfl
@[simp] theorem raiseParameterRangeError_ug (c : CauseCode) (s : State) :
    (raiseParameterRangeError c s).ug = s.ug := rfl
@[simp] theorem raiseParameterRangeError_w0 (c : CauseCode) (s : State) :
    (raiseParameterRangeError c s).w0 = s.w0 := rfl
@[simp] theorem raiseParameterRangeError_alpha (c : CauseCode) (s : State) :
    (raiseParameterRangeError c s).alpha = s.alpha := rfl
@[simp] theorem raiseParameterRangeError_b0 (c : CauseCode) (s : State) :
    (raiseParameterRangeError c s).b0 = s.b0 := rfl
@[simp] theorem raiseParameterRangeError_b1 (c : CauseCode) (s : State) :
    (raiseParameterRangeError c s).b1 = s.b1 := rfl
@[simp] theorem raiseParameterRangeError_b2 (c : CauseCode) (s : State) :
    (raiseParameterRangeError c s).b2 = s.b2 := rfl
@[simp] theorem raiseParameterRangeError_a0 (c : CauseCode) (s : State) :
    (raiseParameterRangeError c s).a0 = s.a0 := rfl
@[simp] theorem raiseParameterRangeError_a1 (c : CauseCode) (s : State) :
    (raiseParameterRangeError c s).a1 = s.a1 := rfl
@[simp] theorem raiseParameterRangeError_a2 (c : CauseCode) (s : State) :
    (raiseParameterRangeError c s).a2 = s.a2 := rfl
@[simp] theorem raiseParameterRangeError_n (c : CauseCode) (s : State) :
    (raiseParameterRangeError c s).n = s.n := rfl
@[simp] theorem raiseParameterRangeError_g (c : CauseCode) (s : State) :
    (raiseParameterRangeError c s).g = s.g := rfl
@[simp] theorem raiseParameterRangeError_q14 (c : CauseCode) (s : State) :
    (raiseParameterRangeError c s).q14 = s.q14 := rfl
@[simp] theorem raiseParameterRangeError_qe (c : CauseCode) (s : State) :
    (raiseParameterRangeError c s).qe = s.qe := rfl
@[simp] theorem raiseParameterRangeError_stage (c : CauseCode) (s : State) :
    (raiseParameterRangeError c s).stage = Stage.err := rfl
@[simp] theorem raiseParameterRangeError_status (c : CauseCode) (s : State) :
    (raiseParameterRangeError c s).status = { s.status with err := true, busy := false } := rfl
@[simp] theorem raiseParameterRangeError_errcause (c : CauseCode) (s : State) :
    (raiseParameterRangeError c s).errcause = c := rfl
@[simp] theorem raiseParameterRangeError_text (c : CauseCode) (s : State) :
    (raiseParameterRangeError c s).text = s.text := rfl
@[simp] theorem raiseParameterRangeError_wires (c : CauseCode) (s : State) :
    (raiseParameterRangeError c s).wires = s.wires := rfl
@[simp] theorem raiseParameterRangeError_turns (c : CauseCode) (s : State) :
    (raiseParameterRangeError c s).turns = s.turns := rfl
@[simp] theorem raiseParameterRangeError_draws (c : CauseCode) (s : State) :
    (raiseParameterRangeError c s).draws = s.draws := rfl

/-! ### raiseDegenerateGainWarning -/
@[simp] theorem raiseDegenerateGainWarning_fs (s : State) :
    (raiseDegenerateGainWarning s).fs = s.fs := rfl
@[simp] theorem raiseDegenerateGainWarning_f0 (s : State) :
    (raiseDegenerateGainWarning s).f0 = s.f0 := rfl
@[simp] theorem raiseDegenerateGainWarning_qf (s : State) :
    (raiseDegenerateGainWarning s).qf = s.qf := rfl
@[simp] theorem raiseDegenerateGainWarning_ug (s : State) :
    (raiseDegenerateGainWarning s).ug = s.ug := rfl
@[simp] theorem raiseDegenerateGainWarning_w0 (s : State) :
    (raiseDegenerateGainWarning s).w0 = s.w0 := rfl
@[simp] theorem raiseDegenerateGainWarning_alpha (s : State) :
    (raiseDegenerateGainWarning s).alpha = s.alpha := rfl
@[simp] theorem raiseDegenerateGainWarning_b0 (s : State) :
    (raiseDegenerateGainWarning s).b0 = s.b0 := rfl
@[simp] theorem raiseDegenerateGainWarning_b1 (s : State) :
    (raiseDegenerateGainWarning s).b1 = s.b1 := rfl
@[simp] theorem raiseDegenerateGainWarning_b2 (s : State) :
    (raiseDegenerateGainWarning s).b2 = s.b2 := rfl
@[simp] theorem raiseDegenerateGainWarning_a0 (s : State) :
    (raiseDegenerateGainWarning s).a0 = s.a0 := rfl
@[simp] theorem raiseDegenerateGainWarning_a1 (s : State) :
    (raiseDegenerateGainWarning s).a1 = s.a1 := rfl
@[simp] theorem raiseDegenerateGainWarning_a2 (s : State) :
    (raiseDegenerateGainWarning s).a2 = s.a2 := rfl
@[simp] theorem raiseDegenerateGainWarning_n (s : State) :
    (raiseDegenerateGainWarning s).n = s.n := rfl
@[simp] theorem raiseDegenerateGainWarning_g (s : State) :
    (raiseDegenerateGainWarning s).g = s.g := rfl
@[simp] theorem raiseDegenerateGainWarning_q14 (s : State) :
    (raiseDegenerateGainWarning s).q14 = s.q14 := rfl
@[simp] theorem raiseDegenerateGainWarning_qe (s : State) :
    (raiseDegenerateGainWarning s).qe = s.qe := rfl
@[simp] theorem raiseDegenerateGainWarning_stage (s : State) :
    (raiseDegenerateGainWarning s).stage = s.stage := rfl
@[simp] theorem raiseDegenerateGainWarning_status (s : State) :
    (raiseDegenerateGainWarning s).status = { s.status with degen := true } := rfl
@[simp] theorem raiseDegenerateGainWarning_errcause (s : State) :
    (raiseDegenerateGainWarning s).errcause = s.errcause := rfl
@[simp] theorem raiseDegenerateGainWarning_text (s : State) :
    (raiseDegenerateGainWarning s).text = s.text := rfl
@[simp] theorem raiseDegenerateGainWarning_wires (s : State) :
    (raiseDegenerateGainWarning s).wires = s.wires := rfl
@[simp] theorem raiseDegenerateGainWarning_turns (s : State) :
    (raiseDegenerateGainWarning s).turns = s.turns := rfl
@[simp] theorem raiseDegenerateGainWarning_draws (s : State) :
    (raiseDegenerateGainWarning s).draws = s.draws := rfl

/-! ### writeSat -/
@[simp] theorem writeSat_fs (i : Coef) (b : Bool) (s : State) :
    (writeSat i b s).fs = s.fs := rfl
@[simp] theorem writeSat_f0 (i : Coef) (b : Bool) (s : State) :
    (writeSat i b s).f0 = s.f0 := rfl
@[simp] theorem writeSat_qf (i : Coef) (b : Bool) (s : State) :
    (writeSat i b s).qf = s.qf := rfl
@[simp] theorem writeSat_ug (i : Coef) (b : Bool) (s : State) :
    (writeSat i b s).ug = s.ug := rfl
@[simp] theorem writeSat_w0 (i : Coef) (b : Bool) (s : State) :
    (writeSat i b s).w0 = s.w0 := rfl
@[simp] theorem writeSat_alpha (i : Coef) (b : Bool) (s : State) :
    (writeSat i b s).alpha = s.alpha := rfl
@[simp] theorem writeSat_b0 (i : Coef) (b : Bool) (s : State) :
    (writeSat i b s).b0 = s.b0 := rfl
@[simp] theorem writeSat_b1 (i : Coef) (b : Bool) (s : State) :
    (writeSat i b s).b1 = s.b1 := rfl
@[simp] theorem writeSat_b2 (i : Coef) (b : Bool) (s : State) :
    (writeSat i b s).b2 = s.b2 := rfl
@[simp] theorem writeSat_a0 (i : Coef) (b : Bool) (s : State) :
    (writeSat i b s).a0 = s.a0 := rfl
@[simp] theorem writeSat_a1 (i : Coef) (b : Bool) (s : State) :
    (writeSat i b s).a1 = s.a1 := rfl
@[simp] theorem writeSat_a2 (i : Coef) (b : Bool) (s : State) :
    (writeSat i b s).a2 = s.a2 := rfl
@[simp] theorem writeSat_n (i : Coef) (b : Bool) (s : State) :
    (writeSat i b s).n = s.n := rfl
@[simp] theorem writeSat_g (i : Coef) (b : Bool) (s : State) :
    (writeSat i b s).g = s.g := rfl
@[simp] theorem writeSat_q14 (i : Coef) (b : Bool) (s : State) :
    (writeSat i b s).q14 = s.q14 := rfl
@[simp] theorem writeSat_qe (i : Coef) (b : Bool) (s : State) :
    (writeSat i b s).qe = s.qe := rfl
@[simp] theorem writeSat_stage (i : Coef) (b : Bool) (s : State) :
    (writeSat i b s).stage = s.stage := rfl
@[simp] theorem writeSat_status (i : Coef) (b : Bool) (s : State) :
    (writeSat i b s).status = { s.status with sat := s.status.sat.set i b } := rfl
@[simp] theorem writeSat_errcause (i : Coef) (b : Bool) (s : State) :
    (writeSat i b s).errcause = s.errcause := rfl
@[simp] theorem writeSat_text (i : Coef) (b : Bool) (s : State) :
    (writeSat i b s).text = s.text := rfl
@[simp] theorem writeSat_wires (i : Coef) (b : Bool) (s : State) :
    (writeSat i b s).wires = s.wires := rfl
@[simp] theorem writeSat_turns (i : Coef) (b : Bool) (s : State) :
    (writeSat i b s).turns = s.turns := rfl
@[simp] theorem writeSat_draws (i : Coef) (b : Bool) (s : State) :
    (writeSat i b s).draws = s.draws := rfl

/-! ### writeQuantized -/
@[simp] theorem writeQuantized_fs (i : Coef) (x : NumTerm) (q : Int) (b : Bool) (c : StageCode) (s : State) :
    (writeQuantized i x q b c s).fs = s.fs := rfl
@[simp] theorem writeQuantized_f0 (i : Coef) (x : NumTerm) (q : Int) (b : Bool) (c : StageCode) (s : State) :
    (writeQuantized i x q b c s).f0 = s.f0 := rfl
@[simp] theorem writeQuantized_qf (i : Coef) (x : NumTerm) (q : Int) (b : Bool) (c : StageCode) (s : State) :
    (writeQuantized i x q b c s).qf = s.qf := rfl
@[simp] theorem writeQuantized_ug (i : Coef) (x : NumTerm) (q : Int) (b : Bool) (c : StageCode) (s : State) :
    (writeQuantized i x q b c s).ug = s.ug := rfl
@[simp] theorem writeQuantized_w0 (i : Coef) (x : NumTerm) (q : Int) (b : Bool) (c : StageCode) (s : State) :
    (writeQuantized i x q b c s).w0 = s.w0 := rfl
@[simp] theorem writeQuantized_alpha (i : Coef) (x : NumTerm) (q : Int) (b : Bool) (c : StageCode) (s : State) :
    (writeQuantized i x q b c s).alpha = s.alpha := rfl
@[simp] theorem writeQuantized_b0 (i : Coef) (x : NumTerm) (q : Int) (b : Bool) (c : StageCode) (s : State) :
    (writeQuantized i x q b c s).b0 = s.b0 := rfl
@[simp] theorem writeQuantized_b1 (i : Coef) (x : NumTerm) (q : Int) (b : Bool) (c : StageCode) (s : State) :
    (writeQuantized i x q b c s).b1 = s.b1 := rfl
@[simp] theorem writeQuantized_b2 (i : Coef) (x : NumTerm) (q : Int) (b : Bool) (c : StageCode) (s : State) :
    (writeQuantized i x q b c s).b2 = s.b2 := rfl
@[simp] theorem writeQuantized_a0 (i : Coef) (x : NumTerm) (q : Int) (b : Bool) (c : StageCode) (s : State) :
    (writeQuantized i x q b c s).a0 = s.a0 := rfl
@[simp] theorem writeQuantized_a1 (i : Coef) (x : NumTerm) (q : Int) (b : Bool) (c : StageCode) (s : State) :
    (writeQuantized i x q b c s).a1 = s.a1 := rfl
@[simp] theorem writeQuantized_a2 (i : Coef) (x : NumTerm) (q : Int) (b : Bool) (c : StageCode) (s : State) :
    (writeQuantized i x q b c s).a2 = s.a2 := rfl
@[simp] theorem writeQuantized_n (i : Coef) (x : NumTerm) (q : Int) (b : Bool) (c : StageCode) (s : State) :
    (writeQuantized i x q b c s).n = s.n := rfl
@[simp] theorem writeQuantized_g (i : Coef) (x : NumTerm) (q : Int) (b : Bool) (c : StageCode) (s : State) :
    (writeQuantized i x q b c s).g = s.g := rfl
@[simp] theorem writeQuantized_q14 (i : Coef) (x : NumTerm) (q : Int) (b : Bool) (c : StageCode) (s : State) :
    (writeQuantized i x q b c s).q14 = s.q14.set i (some (enc16 q)) := rfl
@[simp] theorem writeQuantized_qe (i : Coef) (x : NumTerm) (q : Int) (b : Bool) (c : StageCode) (s : State) :
    (writeQuantized i x q b c s).qe = s.qe.set i (some (qerr x q)) := rfl
@[simp] theorem writeQuantized_stage (i : Coef) (x : NumTerm) (q : Int) (b : Bool) (c : StageCode) (s : State) :
    (writeQuantized i x q b c s).stage = c := rfl
@[simp] theorem writeQuantized_status (i : Coef) (x : NumTerm) (q : Int) (b : Bool) (c : StageCode) (s : State) :
    (writeQuantized i x q b c s).status = { s.status with sat := s.status.sat.set i b } := rfl
@[simp] theorem writeQuantized_errcause (i : Coef) (x : NumTerm) (q : Int) (b : Bool) (c : StageCode) (s : State) :
    (writeQuantized i x q b c s).errcause = s.errcause := rfl
@[simp] theorem writeQuantized_text (i : Coef) (x : NumTerm) (q : Int) (b : Bool) (c : StageCode) (s : State) :
    (writeQuantized i x q b c s).text = s.text := rfl
@[simp] theorem writeQuantized_wires (i : Coef) (x : NumTerm) (q : Int) (b : Bool) (c : StageCode) (s : State) :
    (writeQuantized i x q b c s).wires = s.wires := rfl
@[simp] theorem writeQuantized_turns (i : Coef) (x : NumTerm) (q : Int) (b : Bool) (c : StageCode) (s : State) :
    (writeQuantized i x q b c s).turns = s.turns := rfl
@[simp] theorem writeQuantized_draws (i : Coef) (x : NumTerm) (q : Int) (b : Bool) (c : StageCode) (s : State) :
    (writeQuantized i x q b c s).draws = s.draws := rfl

/-! ### countDraw -/
@[simp] theorem countDraw_fs (s : State) :
    (countDraw s).fs = s.fs := rfl
@[simp] theorem countDraw_f0 (s : State) :
    (countDraw s).f0 = s.f0 := rfl
@[simp] theorem countDraw_qf (s : State) :
    (countDraw s).qf = s.qf := rfl
@[simp] theorem countDraw_ug (s : State) :
    (countDraw s).ug = s.ug := rfl
@[simp] theorem countDraw_w0 (s : State) :
    (countDraw s).w0 = s.w0 := rfl
@[simp] theorem countDraw_alpha (s : State) :
    (countDraw s).alpha = s.alpha := rfl
@[simp] theorem countDraw_b0 (s : State) :
    (countDraw s).b0 = s.b0 := rfl
@[simp] theorem countDraw_b1 (s : State) :
    (countDraw s).b1 = s.b1 := rfl
@[simp] theorem countDraw_b2 (s : State) :
    (countDraw s).b2 = s.b2 := rfl
@[simp] theorem countDraw_a0 (s : State) :
    (countDraw s).a0 = s.a0 := rfl
@[simp] theorem countDraw_a1 (s : State) :
    (countDraw s).a1 = s.a1 := rfl
@[simp] theorem countDraw_a2 (s : State) :
    (countDraw s).a2 = s.a2 := rfl
@[simp] theorem countDraw_n (s : State) :
    (countDraw s).n = s.n := rfl
@[simp] theorem countDraw_g (s : State) :
    (countDraw s).g = s.g := rfl
@[simp] theorem countDraw_q14 (s : State) :
    (countDraw s).q14 = s.q14 := rfl
@[simp] theorem countDraw_qe (s : State) :
    (countDraw s).qe = s.qe := rfl
@[simp] theorem countDraw_stage (s : State) :
    (countDraw s).stage = s.stage := rfl
@[simp] theorem countDraw_status (s : State) :
    (countDraw s).status = s.status := rfl
@[simp] theorem countDraw_errcause (s : State) :
    (countDraw s).errcause = s.errcause := rfl
@[simp] theorem countDraw_text (s : State) :
    (countDraw s).text = s.text := rfl
@[simp] theorem countDraw_wires (s : State) :
    (countDraw s).wires = s.wires := rfl
@[simp] theorem countDraw_turns (s : State) :
    (countDraw s).turns = s.turns := rfl
@[simp] theorem countDraw_draws (s : State) :
    (countDraw s).draws = s.draws + 1 := rfl

/-! ### resetRegisters -/
@[simp] theorem resetRegisters_fs (s : State) :
    (resetRegisters s).fs = none := rfl
@[simp] theorem resetRegisters_f0 (s : State) :
    (resetRegisters s).f0 = none := rfl
@[simp] theorem resetRegisters_qf (s : State) :
    (resetRegisters s).qf = none := rfl
@[simp] theorem resetRegisters_ug (s : State) :
    (resetRegisters s).ug = false := rfl
@[simp] theorem resetRegisters_w0 (s : State) :
    (resetRegisters s).w0 = none := rfl
@[simp] theorem resetRegisters_alpha (s : State) :
    (resetRegisters s).alpha = none := rfl
@[simp] theorem resetRegisters_b0 (s : State) :
    (resetRegisters s).b0 = none := rfl
@[simp] theorem resetRegisters_b1 (s : State) :
    (resetRegisters s).b1 = none := rfl
@[simp] theorem resetRegisters_b2 (s : State) :
    (resetRegisters s).b2 = none := rfl
@[simp] theorem resetRegisters_a0 (s : State) :
    (resetRegisters s).a0 = none := rfl
@[simp] theorem resetRegisters_a1 (s : State) :
    (resetRegisters s).a1 = none := rfl
@[simp] theorem resetRegisters_a2 (s : State) :
    (resetRegisters s).a2 = none := rfl
@[simp] theorem resetRegisters_n (s : State) :
    (resetRegisters s).n = PerCoef.all none := rfl
@[simp] theorem resetRegisters_g (s : State) :
    (resetRegisters s).g = none := rfl
@[simp] theorem resetRegisters_q14 (s : State) :
    (resetRegisters s).q14 = PerCoef.all none := rfl
@[simp] theorem resetRegisters_qe (s : State) :
    (resetRegisters s).qe = PerCoef.all none := rfl
@[simp] theorem resetRegisters_stage (s : State) :
    (resetRegisters s).stage = Stage.idle := rfl
@[simp] theorem resetRegisters_status (s : State) :
    (resetRegisters s).status = Status.zero := rfl
@[simp] theorem resetRegisters_errcause (s : State) :
    (resetRegisters s).errcause = 0#4 := rfl
@[simp] theorem resetRegisters_text (s : State) :
    (resetRegisters s).text = [] := rfl
@[simp] theorem resetRegisters_wires (s : State) :
    (resetRegisters s).wires = s.wires := rfl
@[simp] theorem resetRegisters_turns (s : State) :
    (resetRegisters s).turns = s.turns := rfl
@[simp] theorem resetRegisters_draws (s : State) :
    (resetRegisters s).draws = s.draws := rfl

/-! ### beginRun -/
@[simp] theorem beginRun_fs (s : State) :
    (beginRun s).fs = some s.wires.fsIn := rfl
@[simp] theorem beginRun_f0 (s : State) :
    (beginRun s).f0 = some s.wires.f0In := rfl
@[simp] theorem beginRun_qf (s : State) :
    (beginRun s).qf = some s.wires.qIn := rfl
@[simp] theorem beginRun_ug (s : State) :
    (beginRun s).ug = s.wires.ugIn := rfl
@[simp] theorem beginRun_w0 (s : State) :
    (beginRun s).w0 = none := rfl
@[simp] theorem beginRun_alpha (s : State) :
    (beginRun s).alpha = none := rfl
@[simp] theorem beginRun_b0 (s : State) :
    (beginRun s).b0 = none := rfl
@[simp] theorem beginRun_b1 (s : State) :
    (beginRun s).b1 = none := rfl
@[simp] theorem beginRun_b2 (s : State) :
    (beginRun s).b2 = none := rfl
@[simp] theorem beginRun_a0 (s : State) :
    (beginRun s).a0 = none := rfl
@[simp] theorem beginRun_a1 (s : State) :
    (beginRun s).a1 = none := rfl
@[simp] theorem beginRun_a2 (s : State) :
    (beginRun s).a2 = none := rfl
@[simp] theorem beginRun_n (s : State) :
    (beginRun s).n = PerCoef.all none := rfl
@[simp] theorem beginRun_g (s : State) :
    (beginRun s).g = none := rfl
@[simp] theorem beginRun_q14 (s : State) :
    (beginRun s).q14 = PerCoef.all none := rfl
@[simp] theorem beginRun_qe (s : State) :
    (beginRun s).qe = PerCoef.all none := rfl
@[simp] theorem beginRun_stage (s : State) :
    (beginRun s).stage = Stage.chk := rfl
@[simp] theorem beginRun_status (s : State) :
    (beginRun s).status = Status.running := rfl
@[simp] theorem beginRun_errcause (s : State) :
    (beginRun s).errcause = 0#4 := rfl
@[simp] theorem beginRun_text (s : State) :
    (beginRun s).text = [] := rfl
@[simp] theorem beginRun_wires (s : State) :
    (beginRun s).wires = s.wires := rfl
@[simp] theorem beginRun_turns (s : State) :
    (beginRun s).turns = s.turns := rfl
@[simp] theorem beginRun_draws (s : State) :
    (beginRun s).draws = s.draws := rfl

/-! ### writeAnalog -/
@[simp] theorem writeAnalog_fs (fs f0 q : NumTerm) (s : State) :
    (writeAnalog fs f0 q s).fs = s.fs := rfl
@[simp] theorem writeAnalog_f0 (fs f0 q : NumTerm) (s : State) :
    (writeAnalog fs f0 q s).f0 = s.f0 := rfl
@[simp] theorem writeAnalog_qf (fs f0 q : NumTerm) (s : State) :
    (writeAnalog fs f0 q s).qf = s.qf := rfl
@[simp] theorem writeAnalog_ug (fs f0 q : NumTerm) (s : State) :
    (writeAnalog fs f0 q s).ug = s.ug := rfl
@[simp] theorem writeAnalog_w0 (fs f0 q : NumTerm) (s : State) :
    (writeAnalog fs f0 q s).w0 = some (w0Formula fs f0) := rfl
@[simp] theorem writeAnalog_alpha (fs f0 q : NumTerm) (s : State) :
    (writeAnalog fs f0 q s).alpha = some (alphaFormula (w0Formula fs f0) q) := rfl
@[simp] theorem writeAnalog_b0 (fs f0 q : NumTerm) (s : State) :
    (writeAnalog fs f0 q s).b0 = some (alphaFormula (w0Formula fs f0) q) := rfl
@[simp] theorem writeAnalog_b1 (fs f0 q : NumTerm) (s : State) :
    (writeAnalog fs f0 q s).b1 = some (NumTerm.ofInt 0) := rfl
@[simp] theorem writeAnalog_b2 (fs f0 q : NumTerm) (s : State) :
    (writeAnalog fs f0 q s).b2 = some (.neg (alphaFormula (w0Formula fs f0) q)) := rfl
@[simp] theorem writeAnalog_a0 (fs f0 q : NumTerm) (s : State) :
    (writeAnalog fs f0 q s).a0 = some (.add (NumTerm.ofInt 1) (alphaFormula (w0Formula fs f0) q)) := rfl
@[simp] theorem writeAnalog_a1 (fs f0 q : NumTerm) (s : State) :
    (writeAnalog fs f0 q s).a1 = some (.neg (.mul (NumTerm.ofInt 2) (.cos (w0Formula fs f0)))) := rfl
@[simp] theorem writeAnalog_a2 (fs f0 q : NumTerm) (s : State) :
    (writeAnalog fs f0 q s).a2 = some (.sub (NumTerm.ofInt 1) (alphaFormula (w0Formula fs f0) q)) := rfl
@[simp] theorem writeAnalog_n (fs f0 q : NumTerm) (s : State) :
    (writeAnalog fs f0 q s).n = s.n := rfl
@[simp] theorem writeAnalog_g (fs f0 q : NumTerm) (s : State) :
    (writeAnalog fs f0 q s).g = s.g := rfl
@[simp] theorem writeAnalog_q14 (fs f0 q : NumTerm) (s : State) :
    (writeAnalog fs f0 q s).q14 = s.q14 := rfl
@[simp] theorem writeAnalog_qe (fs f0 q : NumTerm) (s : State) :
    (writeAnalog fs f0 q s).qe = s.qe := rfl
@[simp] theorem writeAnalog_stage (fs f0 q : NumTerm) (s : State) :
    (writeAnalog fs f0 q s).stage = Stage.nrm := rfl
@[simp] theorem writeAnalog_status (fs f0 q : NumTerm) (s : State) :
    (writeAnalog fs f0 q s).status = s.status := rfl
@[simp] theorem writeAnalog_errcause (fs f0 q : NumTerm) (s : State) :
    (writeAnalog fs f0 q s).errcause = s.errcause := rfl
@[simp] theorem writeAnalog_text (fs f0 q : NumTerm) (s : State) :
    (writeAnalog fs f0 q s).text = s.text := rfl
@[simp] theorem writeAnalog_wires (fs f0 q : NumTerm) (s : State) :
    (writeAnalog fs f0 q s).wires = s.wires := rfl
@[simp] theorem writeAnalog_turns (fs f0 q : NumTerm) (s : State) :
    (writeAnalog fs f0 q s).turns = s.turns := rfl
@[simp] theorem writeAnalog_draws (fs f0 q : NumTerm) (s : State) :
    (writeAnalog fs f0 q s).draws = s.draws := rfl

/-! ### writeNormalized -/
@[simp] theorem writeNormalized_fs (b0 b1 b2 a0 a1 a2 : NumTerm) (s : State) :
    (writeNormalized b0 b1 b2 a0 a1 a2 s).fs = s.fs := rfl
@[simp] theorem writeNormalized_f0 (b0 b1 b2 a0 a1 a2 : NumTerm) (s : State) :
    (writeNormalized b0 b1 b2 a0 a1 a2 s).f0 = s.f0 := rfl
@[simp] theorem writeNormalized_qf (b0 b1 b2 a0 a1 a2 : NumTerm) (s : State) :
    (writeNormalized b0 b1 b2 a0 a1 a2 s).qf = s.qf := rfl
@[simp] theorem writeNormalized_ug (b0 b1 b2 a0 a1 a2 : NumTerm) (s : State) :
    (writeNormalized b0 b1 b2 a0 a1 a2 s).ug = s.ug := rfl
@[simp] theorem writeNormalized_w0 (b0 b1 b2 a0 a1 a2 : NumTerm) (s : State) :
    (writeNormalized b0 b1 b2 a0 a1 a2 s).w0 = s.w0 := rfl
@[simp] theorem writeNormalized_alpha (b0 b1 b2 a0 a1 a2 : NumTerm) (s : State) :
    (writeNormalized b0 b1 b2 a0 a1 a2 s).alpha = s.alpha := rfl
@[simp] theorem writeNormalized_b0 (b0 b1 b2 a0 a1 a2 : NumTerm) (s : State) :
    (writeNormalized b0 b1 b2 a0 a1 a2 s).b0 = s.b0 := rfl
@[simp] theorem writeNormalized_b1 (b0 b1 b2 a0 a1 a2 : NumTerm) (s : State) :
    (writeNormalized b0 b1 b2 a0 a1 a2 s).b1 = s.b1 := rfl
@[simp] theorem writeNormalized_b2 (b0 b1 b2 a0 a1 a2 : NumTerm) (s : State) :
    (writeNormalized b0 b1 b2 a0 a1 a2 s).b2 = s.b2 := rfl
@[simp] theorem writeNormalized_a0 (b0 b1 b2 a0 a1 a2 : NumTerm) (s : State) :
    (writeNormalized b0 b1 b2 a0 a1 a2 s).a0 = s.a0 := rfl
@[simp] theorem writeNormalized_a1 (b0 b1 b2 a0 a1 a2 : NumTerm) (s : State) :
    (writeNormalized b0 b1 b2 a0 a1 a2 s).a1 = s.a1 := rfl
@[simp] theorem writeNormalized_a2 (b0 b1 b2 a0 a1 a2 : NumTerm) (s : State) :
    (writeNormalized b0 b1 b2 a0 a1 a2 s).a2 = s.a2 := rfl
@[simp] theorem writeNormalized_n (b0 b1 b2 a0 a1 a2 : NumTerm) (s : State) :
    (writeNormalized b0 b1 b2 a0 a1 a2 s).n = ⟨some (.div b0 a0), some (.div b1 a0), some (.div b2 a0), some (.div a1 a0), some (.div a2 a0)⟩ := rfl
@[simp] theorem writeNormalized_g (b0 b1 b2 a0 a1 a2 : NumTerm) (s : State) :
    (writeNormalized b0 b1 b2 a0 a1 a2 s).g = s.g := rfl
@[simp] theorem writeNormalized_q14 (b0 b1 b2 a0 a1 a2 : NumTerm) (s : State) :
    (writeNormalized b0 b1 b2 a0 a1 a2 s).q14 = s.q14 := rfl
@[simp] theorem writeNormalized_qe (b0 b1 b2 a0 a1 a2 : NumTerm) (s : State) :
    (writeNormalized b0 b1 b2 a0 a1 a2 s).qe = s.qe := rfl
@[simp] theorem writeNormalized_stage (b0 b1 b2 a0 a1 a2 : NumTerm) (s : State) :
    (writeNormalized b0 b1 b2 a0 a1 a2 s).stage = Stage.ugn := rfl
@[simp] theorem writeNormalized_status (b0 b1 b2 a0 a1 a2 : NumTerm) (s : State) :
    (writeNormalized b0 b1 b2 a0 a1 a2 s).status = s.status := rfl
@[simp] theorem writeNormalized_errcause (b0 b1 b2 a0 a1 a2 : NumTerm) (s : State) :
    (writeNormalized b0 b1 b2 a0 a1 a2 s).errcause = s.errcause := rfl
@[simp] theorem writeNormalized_text (b0 b1 b2 a0 a1 a2 : NumTerm) (s : State) :
    (writeNormalized b0 b1 b2 a0 a1 a2 s).text = s.text := rfl
@[simp] theorem writeNormalized_wires (b0 b1 b2 a0 a1 a2 : NumTerm) (s : State) :
    (writeNormalized b0 b1 b2 a0 a1 a2 s).wires = s.wires := rfl
@[simp] theorem writeNormalized_turns (b0 b1 b2 a0 a1 a2 : NumTerm) (s : State) :
    (writeNormalized b0 b1 b2 a0 a1 a2 s).turns = s.turns := rfl
@[simp] theorem writeNormalized_draws (b0 b1 b2 a0 a1 a2 : NumTerm) (s : State) :
    (writeNormalized b0 b1 b2 a0 a1 a2 s).draws = s.draws := rfl

/-! ### writeRescaled -/
@[simp] theorem writeRescaled_fs (n : PerCoef NumTerm) (g : NumTerm) (s : State) :
    (writeRescaled n g s).fs = s.fs := rfl
@[simp] theorem writeRescaled_f0 (n : PerCoef NumTerm) (g : NumTerm) (s : State) :
    (writeRescaled n g s).f0 = s.f0 := rfl
@[simp] theorem writeRescaled_qf (n : PerCoef NumTerm) (g : NumTerm) (s : State) :
    (writeRescaled n g s).qf = s.qf := rfl
@[simp] theorem writeRescaled_ug (n : PerCoef NumTerm) (g : NumTerm) (s : State) :
    (writeRescaled n g s).ug = s.ug := rfl
@[simp] theorem writeRescaled_w0 (n : PerCoef NumTerm) (g : NumTerm) (s : State) :
    (writeRescaled n g s).w0 = s.w0 := rfl
@[simp] theorem writeRescaled_alpha (n : PerCoef NumTerm) (g : NumTerm) (s : State) :
    (writeRescaled n g s).alpha = s.alpha := rfl
@[simp] theorem writeRescaled_b0 (n : PerCoef NumTerm) (g : NumTerm) (s : State) :
    (writeRescaled n g s).b0 = s.b0 := rfl
@[simp] theorem writeRescaled_b1 (n : PerCoef NumTerm) (g : NumTerm) (s : State) :
    (writeRescaled n g s).b1 = s.b1 := rfl
@[simp] theorem writeRescaled_b2 (n : PerCoef NumTerm) (g : NumTerm) (s : State) :
    (writeRescaled n g s).b2 = s.b2 := rfl
@[simp] theorem writeRescaled_a0 (n : PerCoef NumTerm) (g : NumTerm) (s : State) :
    (writeRescaled n g s).a0 = s.a0 := rfl
@[simp] theorem writeRescaled_a1 (n : PerCoef NumTerm) (g : NumTerm) (s : State) :
    (writeRescaled n g s).a1 = s.a1 := rfl
@[simp] theorem writeRescaled_a2 (n : PerCoef NumTerm) (g : NumTerm) (s : State) :
    (writeRescaled n g s).a2 = s.a2 := rfl
@[simp] theorem writeRescaled_n (n : PerCoef NumTerm) (g : NumTerm) (s : State) :
    (writeRescaled n g s).n = { s.n with b0 := some (.div n.b0 g), b1 := some (.div n.b1 g), b2 := some (.div n.b2 g) } := rfl
@[simp] theorem writeRescaled_g (n : PerCoef NumTerm) (g : NumTerm) (s : State) :
    (writeRescaled n g s).g = s.g := rfl
@[simp] theorem writeRescaled_q14 (n : PerCoef NumTerm) (g : NumTerm) (s : State) :
    (writeRescaled n g s).q14 = s.q14 := rfl
@[simp] theorem writeRescaled_qe (n : PerCoef NumTerm) (g : NumTerm) (s : State) :
    (writeRescaled n g s).qe = s.qe := rfl
@[simp] theorem writeRescaled_stage (n : PerCoef NumTerm) (g : NumTerm) (s : State) :
    (writeRescaled n g s).stage = s.stage := rfl
@[simp] theorem writeRescaled_status (n : PerCoef NumTerm) (g : NumTerm) (s : State) :
    (writeRescaled n g s).status = s.status := rfl
@[simp] theorem writeRescaled_errcause (n : PerCoef NumTerm) (g : NumTerm) (s : State) :
    (writeRescaled n g s).errcause = s.errcause := rfl
@[simp] theorem writeRescaled_text (n : PerCoef NumTerm) (g : NumTerm) (s : State) :
    (writeRescaled n g s).text = s.text := rfl
@[simp] theorem writeRescaled_wires (n : PerCoef NumTerm) (g : NumTerm) (s : State) :
    (writeRescaled n g s).wires = s.wires := rfl
@[simp] theorem writeRescaled_turns (n : PerCoef NumTerm) (g : NumTerm) (s : State) :
    (writeRescaled n g s).turns = s.turns := rfl
@[simp] theorem writeRescaled_draws (n : PerCoef NumTerm) (g : NumTerm) (s : State) :
    (writeRescaled n g s).draws = s.draws := rfl

/-! ### endRun -/
@[simp] theorem endRun_fs (t : List Byte) (s : State) :
    (endRun t s).fs = s.fs := rfl
@[simp] theorem endRun_f0 (t : List Byte) (s : State) :
    (endRun t s).f0 = s.f0 := rfl
@[simp] theorem endRun_qf (t : List Byte) (s : State) :
    (endRun t s).qf = s.qf := rfl
@[simp] theorem endRun_ug (t : List Byte) (s : State) :
    (endRun t s).ug = s.ug := rfl
@[simp] theorem endRun_w0 (t : List Byte) (s : State) :
    (endRun t s).w0 = s.w0 := rfl
@[simp] theorem endRun_alpha (t : List Byte) (s : State) :
    (endRun t s).alpha = s.alpha := rfl
@[simp] theorem endRun_b0 (t : List Byte) (s : State) :
    (endRun t s).b0 = s.b0 := rfl
@[simp] theorem endRun_b1 (t : List Byte) (s : State) :
    (endRun t s).b1 = s.b1 := rfl
@[simp] theorem endRun_b2 (t : List Byte) (s : State) :
    (endRun t s).b2 = s.b2 := rfl
@[simp] theorem endRun_a0 (t : List Byte) (s : State) :
    (endRun t s).a0 = s.a0 := rfl
@[simp] theorem endRun_a1 (t : List Byte) (s : State) :
    (endRun t s).a1 = s.a1 := rfl
@[simp] theorem endRun_a2 (t : List Byte) (s : State) :
    (endRun t s).a2 = s.a2 := rfl
@[simp] theorem endRun_n (t : List Byte) (s : State) :
    (endRun t s).n = s.n := rfl
@[simp] theorem endRun_g (t : List Byte) (s : State) :
    (endRun t s).g = s.g := rfl
@[simp] theorem endRun_q14 (t : List Byte) (s : State) :
    (endRun t s).q14 = s.q14 := rfl
@[simp] theorem endRun_qe (t : List Byte) (s : State) :
    (endRun t s).qe = s.qe := rfl
@[simp] theorem endRun_stage (t : List Byte) (s : State) :
    (endRun t s).stage = Stage.done := rfl
@[simp] theorem endRun_status (t : List Byte) (s : State) :
    (endRun t s).status = { s.status with done := true, busy := false } := rfl
@[simp] theorem endRun_errcause (t : List Byte) (s : State) :
    (endRun t s).errcause = s.errcause := rfl
@[simp] theorem endRun_text (t : List Byte) (s : State) :
    (endRun t s).text = t := rfl
@[simp] theorem endRun_wires (t : List Byte) (s : State) :
    (endRun t s).wires = s.wires := rfl
@[simp] theorem endRun_turns (t : List Byte) (s : State) :
    (endRun t s).turns = s.turns := rfl
@[simp] theorem endRun_draws (t : List Byte) (s : State) :
    (endRun t s).draws = s.draws := rfl

/-! ### PerCoef -/

namespace PerCoef
variable {α β : Type}

@[simp] theorem get_set_same (x : PerCoef α) (i : Coef) (v : α) : (x.set i v).get i = v := by cases i <;> rfl

@[simp] theorem get_set_ne (x : PerCoef α) {i j : Coef} (v : α) (h : j ≠ i) : (x.set i v).get j = x.get j := by
  cases i <;> cases j <;> first | rfl | exact absurd rfl h

@[simp] theorem get_all (v : α) (i : Coef) : (PerCoef.all v).get i = v := by cases i <;> rfl

@[simp] theorem get_map (f : α → β) (x : PerCoef α) (i : Coef) : (x.map f).get i = f (x.get i) := by cases i <;> rfl

theorem ext_get {x y : PerCoef α} (h : ∀ i, x.get i = y.get i) : x = y := by
  obtain ⟨x0, x1, x2, x3, x4⟩ := x
  obtain ⟨y0, y1, y2, y3, y4⟩ := y
  have h0 := h .b0
  have h1 := h .b1
  have h2 := h .b2
  have h3 := h .a1
  have h4 := h .a2
  simp only [get] at h0 h1 h2 h3 h4
  simp [h0, h1, h2, h3, h4]

theorem map_some_inj {x y : PerCoef α} (h : x.map some = y.map some) : x = y :=
  ext_get fun i => by simpa using congrArg (fun z => z.get i) h

/-- Five written registers hold five values. -/
theorem eq_map_some_of_isSome {x : PerCoef (Option α)} (h : ∀ i, (x.get i).isSome = true) :
    ∃ y : PerCoef α, x = y.map some := by
  have hs : ∀ i, ∃ v, x.get i = some v := fun i => Option.isSome_iff_exists.mp (h i)
  obtain ⟨v0, e0⟩ := hs .b0
  obtain ⟨v1, e1⟩ := hs .b1
  obtain ⟨v2, e2⟩ := hs .b2
  obtain ⟨v3, e3⟩ := hs .a1
  obtain ⟨v4, e4⟩ := hs .a2
  refine ⟨⟨v0, v1, v2, v3, v4⟩, ext_get fun i => ?_⟩
  cases i <;> simp_all [get, map]

end PerCoef

end Sys2Proof.Machine
end

