-- ==== Sys2Proof/Laws/Ops.lean ====
section
/-! SUPPORT. What each operation can do, said once: its equation where its operands are written, and what follows from its
answering a next state. Callers cite these instead of unfolding an operation. -/

namespace Sys2Proof.Machine

/-! ### Reading registers -/

@[simp] theorem need_some {α : Type} (r : Reg) (x : α) (k : α → Res) : need r (some x) k = k x := rfl

@[simp] theorem need_none {α : Type} (r : Reg) (k : α → Res) : need r none k = .fault (.unwritten r) := rfl

theorem need_next {α : Type} {r : Reg} {v : Option α} {k : α → Res} {t : State} (h : need r v k = .next t) :
    ∃ x, v = some x ∧ k x = .next t := by
  cases v with
  | none => cases h
  | some x => exact ⟨x, rfl, h⟩

@[simp] theorem needAll_some {α : Type} (r : Coef → Reg) (x : PerCoef α) (k : PerCoef α → Res) :
    needAll r (x.map some) k = k x := rfl

theorem needAll_next {α : Type} {r : Coef → Reg} {v : PerCoef (Option α)} {k : PerCoef α → Res} {t : State}
    (h : needAll r v k = .next t) : ∃ x : PerCoef α, v = x.map some ∧ k x = .next t := by
  obtain ⟨v0, v1, v2, v3, v4⟩ := v
  obtain ⟨x0, e0, h⟩ := need_next h
  obtain ⟨x1, e1, h⟩ := need_next h
  obtain ⟨x2, e2, h⟩ := need_next h
  obtain ⟨x3, e3, h⟩ := need_next h
  obtain ⟨x4, e4, h⟩ := need_next h
  simp only at e0 e1 e2 e3 e4
  exact ⟨⟨x0, x1, x2, x3, x4⟩, by simp [PerCoef.map, e0, e1, e2, e3, e4], h⟩

/-! ### The operations -/

/-- CHK goes on or takes the error entry, and does nothing else. -/
theorem chkOp_next {P : Params} {s t : State} (h : chkOp P s = .next t) :
    ∃ fs f0 q, s.fs = some fs ∧ s.f0 = some f0 ∧ s.qf = some q ∧
      (filterSpecOk P.num fs f0 q = true ∧ t = { s with stage := Stage.drv } ∨
       filterSpecOk P.num fs f0 q = false ∧ t = raiseParameterRangeError (causeOf P.num fs f0 q) s) := by
  obtain ⟨fs, e1, h⟩ := need_next h
  obtain ⟨f0, e2, h⟩ := need_next h
  obtain ⟨q, e3, h⟩ := need_next h
  refine ⟨fs, f0, q, e1, e2, e3, ?_⟩
  split at h
  · exact .inl ⟨‹_›, by cases h; rfl⟩
  · exact .inr ⟨Bool.eq_false_iff.mpr ‹_›, by cases h; rfl⟩

/-- DRV runs on a valid FilterSpec only. -/
theorem drvOp_next {P : Params} {s t : State} (h : drvOp P s = .next t) :
    ∃ fs f0 q, s.fs = some fs ∧ s.f0 = some f0 ∧ s.qf = some q ∧
      filterSpecOk P.num fs f0 q = true ∧ t = writeAnalog fs f0 q s := by
  obtain ⟨fs, e1, h⟩ := need_next h
  obtain ⟨f0, e2, h⟩ := need_next h
  obtain ⟨q, e3, h⟩ := need_next h
  refine ⟨fs, f0, q, e1, e2, e3, ?_⟩
  split at h
  · exact ⟨‹_›, by cases h; rfl⟩
  · cases h

theorem nrmOp_next {s t : State} (h : nrmOp s = .next t) :
    ∃ b0 b1 b2 a0 a1 a2, s.b0 = some b0 ∧ s.b1 = some b1 ∧ s.b2 = some b2 ∧ s.a0 = some a0 ∧ s.a1 = some a1 ∧
      s.a2 = some a2 ∧ t = writeNormalized b0 b1 b2 a0 a1 a2 s := by
  obtain ⟨b0, e1, h⟩ := need_next h
  obtain ⟨b1, e2, h⟩ := need_next h
  obtain ⟨b2, e3, h⟩ := need_next h
  obtain ⟨a0, e4, h⟩ := need_next h
  obtain ⟨a1, e5, h⟩ := need_next h
  obtain ⟨a2, e6, h⟩ := need_next h
  exact ⟨b0, b1, b2, a0, a1, a2, e1, e2, e3, e4, e5, e6, by cases h; rfl⟩

/-- What the gain does to the state: DEGEN or the rescale. -/
theorem applyGain_cases (P : Params) (n : PerCoef NumTerm) (g : NumTerm) (s : State) :
    (P.num.isZero g = true ∧ applyGain P n g s = raiseDegenerateGainWarning { s with g := some g }) ∨
    (P.num.isZero g = false ∧ applyGain P n g s = writeRescaled n g { s with g := some g }) := by
  unfold applyGain
  cases P.num.isZero g <;> simp

theorem ugnOp_next {P : Params} {s t : State} (h : ugnOp P s = .next t) :
    (s.ug = false ∧ t = { s with stage := Stage.qb0 }) ∨
    (s.ug = true ∧ ∃ w0 n, s.w0 = some w0 ∧ s.n = PerCoef.map some n ∧
      t = { applyGain P n (gainFormula n w0) s with stage := Stage.qb0 }) := by
  unfold ugnOp at h
  split at h
  · obtain ⟨w0, e1, h⟩ := need_next h
    obtain ⟨n, e2, h⟩ := needAll_next h
    exact .inr ⟨‹_›, w0, n, e1, e2, by cases h; rfl⟩
  · exact .inl ⟨Bool.eq_false_iff.mpr ‹_›, by cases h; rfl⟩

/-- A quantize operation writes the quantized word, or, for a value that is not finite, a drawn one. -/
theorem quantizeOp_next {P : Params} {i : Coef} {c : StageCode} {s t : State} (h : quantizeOp P i c s = .next t) :
    ∃ x, s.n.get i = some x ∧
      (P.num.finite x = true ∧ t = writeQuantized i x (quantize P x).1 (quantize P x).2 c s ∨
       P.num.finite x = false ∧ t = countDraw (writeQuantized i x (drawnWord P s) true c s)) := by
  obtain ⟨x, e, h⟩ := need_next h
  refine ⟨x, e, ?_⟩
  split at h
  · exact .inl ⟨‹_›, by cases h; rfl⟩
  · exact .inr ⟨Bool.eq_false_iff.mpr ‹_›, by cases h; rfl⟩

theorem emitOp_next {P : Params} {s t : State} (h : emitOp P s = .next t) :
    ∃ n q e, s.n = PerCoef.map some n ∧ s.q14 = PerCoef.map some q ∧ s.qe = PerCoef.map some e ∧
      t = endRun (outputText P n q e s.status.sat s.status.degen) s := by
  obtain ⟨n, e1, h⟩ := needAll_next h
  obtain ⟨q, e2, h⟩ := needAll_next h
  obtain ⟨e, e3, h⟩ := needAll_next h
  exact ⟨n, q, e, e1, e2, e3, by cases h; rfl⟩

theorem execStart_next {s t : State} (h : execStart s = .next t) :
    (Stage.resting s.stage = true ∧ t = beginRun s) ∨ (Stage.resting s.stage = false ∧ t = s) := by
  unfold execStart at h
  split at h
  · exact .inl ⟨‹_›, by cases h; rfl⟩
  · exact .inr ⟨Bool.eq_false_iff.mpr ‹_›, by cases h; rfl⟩

/-- A host read changes nothing, and faults where the port has no defined value. -/
theorem execRead_next {p : Port} {s t : State} (h : execRead p s = .next t) : t = s ∧ (readPort s p).isSome = true := by
  unfold execRead at h
  split at h
  · cases h
    simp [*]
  · cases h

/-! ### The quantizer's integers -/

theorem clamp_mem {r lo hi : Int} (h : lo ≤ hi) : lo ≤ clamp r lo hi ∧ clamp r lo hi ≤ hi := by
  unfold clamp
  split
  · omega
  · split <;> omega

theorem clampQ14_mem (r : Int) : -32768 ≤ (clampQ14 r).1 ∧ (clampQ14 r).1 ≤ 32767 :=
  clamp_mem (by decide)

theorem quantize_mem (P : Params) (x : NumTerm) : -32768 ≤ (quantize P x).1 ∧ (quantize P x).1 ≤ 32767 :=
  clampQ14_mem _

theorem dec16_mem (p : Word) : -32768 ≤ dec16 p ∧ dec16 p ≤ 32767 := by
  have := p.isLt
  unfold dec16
  split <;> omega

/-- The clamp as a maximum and a minimum, and when the flag is clear. -/
theorem clampQ14_eq (r : Int) :
    (clampQ14 r).1 = max (-32768) (min r 32767) ∧ ((clampQ14 r).2 = false ↔ (clampQ14 r).1 = r) := by
  unfold clampQ14 clamp Config.qmin Config.qmax
  constructor
  · dsimp only
    split <;> [skip; split] <;> omega
  · simp [bne]

/-- CAUSE is zero exactly when no test failed. -/
theorem causeOf_eq_zero (M : NUM) (fs f0 q : NumTerm) : causeOf M fs f0 q = 0#4 ↔ filterSpecOk M fs f0 q = true := by
  unfold causeOf filterSpecOk
  cases okFs M fs <;> cases okF0 M f0 <;> cases okNyq M fs f0 <;> cases okQ M q <;> decide

end Sys2Proof.Machine
end

