-- ==== Sys2Proof/Laws/Num.lean ====
section
/-! SUPPORT. What the laws of NUM (00_scope.md R10) give, in every NUM: the machine's decisions are those of the reals its
values denote. -/

namespace Sys2Proof.Machine

/-- The three ways a real rounds: down, up, or from a tie. -/
theorem roundTie_cases (t : RoundTie) (y : ℝ) :
    (Int.fract y < 1 / 2 ∧ roundTie t (Scaled.ofReal y) = ⌊y⌋) ∨
    (1 / 2 < Int.fract y ∧ roundTie t (Scaled.ofReal y) = ⌊y⌋ + 1) ∨
    (Int.fract y = 1 / 2 ∧ roundTie t (Scaled.ofReal y) = roundTie t ⟨⌊y⌋, .tie⟩) := by
  unfold Scaled.ofReal
  by_cases h1 : Int.fract y < 1 / 2
  · exact .inl ⟨h1, by simp only [roundTie, h1, if_true]⟩
  · by_cases h2 : Int.fract y = 1 / 2
    · exact .inr (.inr ⟨h2, by simp [h2]⟩)
    · exact .inr (.inl ⟨lt_of_le_of_ne (not_lt.mp h1) (Ne.symm h2), by simp only [roundTie, h1, h2, if_false]⟩)

/-- `quantize` of a finite value: the real it denotes, times 2^14, rounded and clamped (R90). -/
theorem quantize_of_finite {P : Params} {x : NumTerm} (h : P.num.finite x = true) :
    quantize P x = clampQ14 (roundTie P.tie (Scaled.ofReal (P.num.val x * 16384))) := by
  simp only [quantize, P.num.scaled_eq x _ h, Config.scale]
  norm_num

/-- A zero, a negative one too, is quantized to zero, unflagged (R95 (e)). -/
theorem quantize_of_isZero {P : Params} {x : NumTerm} (h : P.num.isZero x = true) : quantize P x = (0, false) := by
  obtain ⟨hf, hv⟩ := (P.num.isZero_iff x).mp h
  have h0 : Scaled.ofReal 0 = ⟨0, .below⟩ := by simp [Scaled.ofReal]
  rw [quantize_of_finite hf, hv, zero_mul, h0]
  rfl

/-- A positive finite number, by the real it denotes. -/
theorem isPositive_iff (M : NUM) (x : NumTerm) : isPositive M x = true ↔ M.finite x = true ∧ 0 < M.val x := by
  obtain ⟨h1, h2⟩ := M.ofInt_exact 0 (by decide) (by decide)
  simp only [isPositive, Bool.and_eq_true, M.lt_iff, h1, h2]
  simp only [Int.cast_zero, true_and]
  tauto

/-- The four tests of CHK, by the reals the operands denote (R70). -/
theorem filterSpecOk_iff (M : NUM) (fs f0 q : NumTerm) :
    filterSpecOk M fs f0 q = true ↔
      (M.finite fs = true ∧ 0 < M.val fs) ∧ (M.finite f0 = true ∧ 0 < M.val f0) ∧
      (M.finite (.div fs (NumTerm.ofInt 2)) = true ∧ M.val f0 < M.val (.div fs (NumTerm.ofInt 2))) ∧
      M.finite q = true ∧ 0 < M.val q := by
  simp only [filterSpecOk, okFs, okF0, okQ, okNyq, Bool.and_eq_true, isPositive_iff, M.lt_iff]
  tauto

/-- The reference FilterSpec of R12 passes CHK in the hardware's NUM. -/
theorem filterSpecOk_reference :
    filterSpecOk Config.num (NumTerm.ofInt 1000000) (NumTerm.ofInt 30000) (NumTerm.ofInt 3) = true := by
  obtain ⟨z1, z2⟩ := Config.num.ofInt_exact 0 (by decide) (by decide)
  obtain ⟨a1, a2⟩ := Config.num.ofInt_exact 30000 (by decide) (by decide)
  obtain ⟨b1, b2⟩ := Config.num.ofInt_exact 3 (by decide) (by decide)
  obtain ⟨r1, r2⟩ := Config.num_reference
  rw [Config.num.lt_iff] at r1 r2
  rw [z2] at r1
  rw [filterSpecOk_iff, a2, b2]
  refine ⟨⟨r1.2.1, by simpa using r1.2.2⟩, ⟨a1, by norm_num⟩, ⟨r2.2.1, by simpa [a2] using r2.2.2⟩, b1, by norm_num⟩

end Sys2Proof.Machine
end

