-- ==== Sys2Proof/Laws/Exact.lean ====
section
/-! SUPPORT. EXACT as the machine sees it. -/

namespace Sys2Proof.Machine.Exact

@[simp] theorem quot_of_ne {a b : ℝ} (h : b ≠ 0) : quot a b = a / b := if_neg h

@[simp] theorem val_ofInt (port : Nat → ℝ) (n : Int) : val port (NumTerm.ofInt n) = n := by
  simp [NumTerm.ofInt, val]

@[simp] theorem num_finite (port : Nat → ℝ) (a : NumTerm) : (num port).finite a = true := rfl

@[simp] theorem num_val (port : Nat → ℝ) : (num port).val = val port := rfl

/-- `isZero` over EXACT is equality with zero. -/
theorem num_isZero (port : Nat → ℝ) (a : NumTerm) : (num port).isZero a = true ↔ val port a = 0 := by simp [num]

/-- `quantize` over EXACT (R90). -/
theorem quantize_exact (port : Nat → ℝ) (t : RoundTie) (free : Nat → Word) (x : NumTerm) :
    quantize (params port t free) x = clampQ14 (roundTie t (Scaled.ofReal (val port x * 16384))) :=
  quantize_of_finite (P := params port t free) rfl

/-- A FilterSpec is valid in EXACT exactly when the document's preconditions hold of the reals (R70). -/
theorem filterSpecOk_exact (port : Nat → ℝ) (fs f0 q : NumTerm) :
    filterSpecOk (num port) fs f0 q = true ↔
      0 < val port fs ∧ 0 < val port f0 ∧ val port f0 < val port fs / 2 ∧ 0 < val port q := by
  have h2 : val port (.div fs (NumTerm.ofInt 2)) = val port fs / 2 := by simp [val]
  simp [filterSpecOk_iff, h2]

end Sys2Proof.Machine.Exact
end

