-- ==== Sys2Proof/Laws/PerInstr.lean ====
section
/-! SUPPORT. Facts of the syntax, one lemma per operation. -/

namespace Sys2Proof.Laws.CodeFits

/-- The operation is in the table's list and well formed, and its code has no bit outside its format. -/
def Statement (i : Instr) : Prop := i ∈ Instr.all ∧ i.wf = true ∧ (encodeWord i).toNat < 2 ^ i.format.width

theorem chk : Statement .chk := by unfold Statement; decide
theorem drv : Statement .drv := by unfold Statement; decide
theorem nrm : Statement .nrm := by unfold Statement; decide
theorem ugn : Statement .ugn := by unfold Statement; decide
theorem qb0 : Statement .qb0 := by unfold Statement; decide
theorem qb1 : Statement .qb1 := by unfold Statement; decide
theorem qb2 : Statement .qb2 := by unfold Statement; decide
theorem qa1 : Statement .qa1 := by unfold Statement; decide
theorem qa2 : Statement .qa2 := by unfold Statement; decide
theorem emit : Statement .emit := by unfold Statement; decide
theorem reset : Statement .reset := by unfold Statement; decide
theorem start : Statement .start := by unfold Statement; decide

end Sys2Proof.Laws.CodeFits
end

