-- ==== Sys2Proof/Laws/Rational.lean ====
section
/-! SUPPORT. A NUM that computes, for tests: literals are worth their rational, dividing by 2 halves exactly, port patterns
are not finite, every sum is worth 1 and every other formula 0. -/

namespace Sys2Proof.Machine

/-- A rational, `num / den`, the denominator positive. -/
structure Frac where
  num : Int
  den : Nat
deriving DecidableEq, Repr

/-- The fraction of a literal; a zero denominator is no value. -/
def Frac.ofLit (num : Int) (den : Nat) : Option Frac := if den = 0 then none else some ⟨num, den⟩

/-- `p < q`. -/
def Frac.lt (p q : Frac) : Bool := decide (p.num * q.den < q.num * p.den)

/-- `q = n` for an integer n. -/
def Frac.isInt (q : Frac) (n : Int) : Bool := q.num == n * q.den

/-- Where the remainder `r` of a division by `den` lies against one half of `den`. -/
def halfOf (r den : Int) : Half :=
  if 2 * r < den then .below else if 2 * r = den then .tie else .above

/-- `p * k` as rounding sees it. -/
def Frac.scaled (p : Frac) (k : Nat) : Scaled where
  floor := p.num * k / p.den
  rest := halfOf (p.num * k % p.den) p.den

/-! ### What a fraction denotes -/

theorem Frac.ofLit_some {n : Int} {d : Nat} {p : Frac} (h : Frac.ofLit n d = some p) : p = ⟨n, d⟩ ∧ 0 < d := by
  unfold Frac.ofLit at h
  split at h
  · cases h
  · exact ⟨by cases h; rfl, Nat.pos_of_ne_zero ‹_›⟩

/-- What a `Frac` denotes. -/
noncomputable def fracVal (p : Frac) : ℝ := (p.num : ℝ) / (p.den : ℝ)

theorem isInt_iff {p : Frac} (hp : 0 < p.den) (n : Int) : p.isInt n = true ↔ fracVal p = n := by
  have hd : (p.den : ℝ) ≠ 0 := by exact_mod_cast hp.ne'
  unfold Frac.isInt fracVal
  rw [beq_iff_eq, div_eq_iff hd]
  exact_mod_cast Iff.rfl

/-- The remainder of an integer division lies against one half as the fractional part of the quotient does. -/
theorem halfOf_eq {m : Int} {d : Nat} (hd : 0 < d) :
    halfOf (m % d) d = (Scaled.ofReal ((m : ℝ) / d)).rest := by
  have hd' : (0 : ℝ) < d := by exact_mod_cast hd
  have hf : Int.fract ((m : ℝ) / d) = ((m % d : Int) : ℝ) / d := by
    rw [Int.fract_eq_iff]
    refine ⟨div_nonneg (by exact_mod_cast Int.emod_nonneg m (by omega)) hd'.le, ?_, m / d, ?_⟩
    · rw [div_lt_one hd']
      exact_mod_cast Int.emod_lt_of_pos m (by exact_mod_cast hd)
    · rw [← sub_div, div_eq_iff hd'.ne', sub_eq_iff_eq_add]
      exact_mod_cast (Int.mul_ediv_add_emod m d).symm.trans (by ring)
  have hlt : ((m % d : Int) : ℝ) / d < 1 / 2 ↔ 2 * (m % d) < (d : Int) := by
    rw [div_lt_div_iff₀ hd' two_pos, one_mul, mul_comm]
    exact_mod_cast Iff.rfl
  have heq : ((m % d : Int) : ℝ) / d = 1 / 2 ↔ 2 * (m % d) = (d : Int) := by
    rw [div_eq_div_iff hd'.ne' two_ne_zero, one_mul, mul_comm]
    exact_mod_cast Iff.rfl
  simp only [Scaled.ofReal, hf, hlt, heq, halfOf]

/-- A rational is scaled as the real it is. -/
theorem scaled_fracVal {p : Frac} (hp : 0 < p.den) (k : Nat) : p.scaled k = Scaled.ofReal (fracVal p * k) := by
  have hd' : (0 : ℝ) < p.den := by exact_mod_cast hp
  have hv : fracVal p * k = ((p.num * k : Int) : ℝ) / p.den := by
    unfold fracVal
    push_cast
    ring
  have hfl : p.num * k / p.den = ⌊((p.num * k : Int) : ℝ) / p.den⌋ := by
    symm
    rw [Int.floor_eq_iff, le_div_iff₀ hd', div_lt_iff₀ hd']
    have h1 := Int.mul_ediv_add_emod (p.num * k) p.den
    have h2 := Int.emod_nonneg (p.num * k) (b := p.den) (by omega)
    have h3 := Int.emod_lt_of_pos (p.num * k) (b := p.den) (by exact_mod_cast hp)
    constructor
    · have : p.num * k / p.den * (p.den : Int) ≤ p.num * k := by rw [mul_comm]; omega
      exact_mod_cast this
    · have : p.num * k < (p.num * k / p.den + 1) * (p.den : Int) := by rw [add_mul, one_mul, mul_comm (_ / _)]; omega
      exact_mod_cast this
  unfold Frac.scaled
  rw [hv, hfl, halfOf_eq hp]
  rfl

/-- What a formula is worth to the tests. -/
def ratValue : NumTerm → Option Frac
  | .lit num den => Frac.ofLit num den
  | .raw _ => none
  | .div a b =>
    match ratValue a, ratValue b with
    | some p, some q => if q.isInt 2 then some ⟨p.num, 2 * p.den⟩ else some ⟨0, 1⟩
    | _, _ => none
  | .add _ _ => some ⟨1, 1⟩
  | _ => some ⟨0, 1⟩

theorem ratValue_den (a : NumTerm) : ∀ p, ratValue a = some p → 0 < p.den := by
  induction a with
  | lit n d =>
    intro p h
    obtain ⟨rfl, hd⟩ := Frac.ofLit_some h
    exact hd
  | raw _ => intro p h; cases h
  | div a b iha ihb =>
    intro p h
    unfold ratValue at h
    split at h
    · next pa pb ha hb =>
      have := iha _ ha
      split at h <;> cases h <;> simp_all
    · cases h
  | _ => intro p h; cases h; exact Nat.one_pos

/-- The fraction, 0 where there is none. -/
def ratFrac (a : NumTerm) : Frac := (ratValue a).getD ⟨0, 1⟩

theorem ratFrac_den (a : NumTerm) : 0 < (ratFrac a).den := by
  unfold ratFrac
  cases h : ratValue a with
  | none => exact Nat.one_pos
  | some p => exact ratValue_den a p h

/-- A NUM that computes. -/
noncomputable def ratNum : NUM where
  finite a := (ratValue a).isSome
  lt a b := (ratValue a).isSome && (ratValue b).isSome && (ratFrac a).lt (ratFrac b)
  isZero a := (ratValue a).isSome && (ratFrac a).isInt 0
  scaled a k := (ratFrac a).scaled k
  val a := fracVal (ratFrac a)
  ofInt_exact n _ _ := ⟨rfl, by simp [fracVal, ratFrac, ratValue, NumTerm.ofInt, Frac.ofLit]⟩
  lt_iff a b := by
    have ha : (0 : ℝ) < (ratFrac a).den := by exact_mod_cast ratFrac_den a
    have hb : (0 : ℝ) < (ratFrac b).den := by exact_mod_cast ratFrac_den b
    have h : (ratFrac a).lt (ratFrac b) = true ↔ fracVal (ratFrac a) < fracVal (ratFrac b) := by
      unfold Frac.lt fracVal
      rw [decide_eq_true_iff, div_lt_div_iff₀ ha hb]
      exact_mod_cast Iff.rfl
    simp only [Bool.and_eq_true, h, and_assoc]
  isZero_iff a := by
    have h := isInt_iff (ratFrac_den a) 0
    simp only [Bool.and_eq_true, h, Int.cast_zero]
  scaled_eq a k _ := scaled_fracVal (ratFrac_den a) k

end Sys2Proof.Machine
end

