-- ==== Sys2Proof/Laws/Step.lean ====
section
/-! SUPPORT. What a step can do: whose turn it is and what the codes ask for. -/

namespace Sys2Proof.Machine

/-- A STAGE code is one of the ten operations', a resting code, or a reserved one. -/
theorem stageMeaning_cases (c : StageCode) :
    (∃ i, stageMeaning c = .op i ∧ i.format = .stage ∧ (encodeWord i).setWidth 4 = c) ∨
    (stageMeaning c = .resting ∧ Stage.resting c = true) ∨
    (stageMeaning c = .stuck ∧ Stage.reserved c = true) := by
  have h : ∀ c : StageCode,
      (Instr.all.any fun i => stageMeaning c == .op i && i.format == .stage && (encodeWord i).setWidth 4 == c)
        || (stageMeaning c == .resting && Stage.resting c) || (stageMeaning c == .stuck && Stage.reserved c) := by
    decide
  have := h c
  simp only [Bool.or_eq_true, List.any_eq_true, Bool.and_eq_true, beq_iff_eq] at this
  obtain (⟨i, -, ⟨h1, h2⟩, h3⟩ | h) | h := this
  · exact .inl ⟨i, h1, h2, h3⟩
  · exact .inr (.inl h)
  · exact .inr (.inr h)

@[simp] theorem stageMeaning_chk : stageMeaning Stage.chk = .op .chk := by decide
@[simp] theorem stageMeaning_drv : stageMeaning Stage.drv = .op .drv := by decide
@[simp] theorem stageMeaning_nrm : stageMeaning Stage.nrm = .op .nrm := by decide
@[simp] theorem stageMeaning_ugn : stageMeaning Stage.ugn = .op .ugn := by decide
@[simp] theorem stageMeaning_qb0 : stageMeaning Stage.qb0 = .op .qb0 := by decide
@[simp] theorem stageMeaning_qb1 : stageMeaning Stage.qb1 = .op .qb1 := by decide
@[simp] theorem stageMeaning_qb2 : stageMeaning Stage.qb2 = .op .qb2 := by decide
@[simp] theorem stageMeaning_qa1 : stageMeaning Stage.qa1 = .op .qa1 := by decide
@[simp] theorem stageMeaning_qa2 : stageMeaning Stage.qa2 = .op .qa2 := by decide
@[simp] theorem stageMeaning_emit : stageMeaning Stage.emit = .op .emit := by decide
@[simp] theorem stageMeaning_idle : stageMeaning Stage.idle = .resting := by decide
@[simp] theorem stageMeaning_done : stageMeaning Stage.done = .resting := by decide
@[simp] theorem stageMeaning_err : stageMeaning Stage.err = .resting := by decide

/-- The host's request on the wires: RESET if rst, else START if start, else none. -/
theorem hostRequest_hostCtl (w : HostPorts) :
    hostRequest (hostCtl w) = if w.rst then some .reset else if w.start then some .start else none := by
  have h : ∀ r st : Bool,
      hostRequest (BitVec.ofNat 2 ((if r then 2 else 0) + (if st then 1 else 0)))
        = if r then some .reset else if st then some .start else none := by decide
  exact h w.rst w.start

/-- The four kinds of step. -/
theorem turnStep_next {run : Instr → State → Res} {s t : State} (h : turnStep run s = .next t) :
    (s.turns = [] ∧ sequencerTurn run s = .next t) ∨
    (∃ rest, s.turns = .seq :: rest ∧ sequencerTurn run { s with turns := rest } = .next t) ∨
    (∃ w rest, s.turns = .lines w :: rest ∧ hostTurn run { s with turns := rest, wires := w } = .next t) ∨
    (∃ p rest, s.turns = .read p :: rest ∧ execRead p { s with turns := rest } = .next t) := by
  unfold turnStep at h
  split at h
  · exact .inl ⟨‹_›, h⟩
  · exact .inr (.inl ⟨_, ‹_›, h⟩)
  · exact .inr (.inr (.inl ⟨_, _, ‹_›, h⟩))
  · exact .inr (.inr (.inr ⟨_, _, ‹_›, h⟩))

/-- The sequencer's turn runs the operation of STAGE, or changes nothing in a resting state. -/
theorem sequencerTurn_next {run : Instr → State → Res} {s t : State} (h : sequencerTurn run s = .next t) :
    (∃ i, stageMeaning s.stage = .op i ∧ run i s = .next t) ∨ (Stage.resting s.stage = true ∧ t = s) := by
  unfold sequencerTurn at h
  split at h
  · exact .inl ⟨_, ‹_›, h⟩
  · next hr =>
    obtain ⟨i, hi, -⟩ | ⟨-, hc⟩ | ⟨hs, -⟩ := stageMeaning_cases s.stage
    · rw [hr] at hi; cases hi
    · exact .inr ⟨hc, by cases h; rfl⟩
    · rw [hr] at hs; cases hs
  · cases h

/-- The host's turn runs RESET or START, or changes nothing. -/
theorem hostTurn_next {run : Instr → State → Res} {s t : State} (h : hostTurn run s = .next t) :
    (s.wires.rst = true ∧ run .reset s = .next t) ∨
    (s.wires.rst = false ∧ s.wires.start = true ∧ run .start s = .next t) ∨
    (s.wires.rst = false ∧ s.wires.start = false ∧ t = s) := by
  unfold hostTurn at h
  rw [hostRequest_hostCtl] at h
  cases hr : s.wires.rst <;> cases hs : s.wires.start <;> simp [hr, hs] at h ⊢ <;> first | exact h | exact h.symm

end Sys2Proof.Machine
end

