-- ==== Sys2Proof/Laws/Run.lean ====
section
/-! SUPPORT. Runs, one step at a time: a step of a run by the operation of STAGE, the quantize operations, and rest. -/

namespace Sys2Proof.Machine

/-! ### One step -/

/-- With no turn listed and an operation's code in STAGE, the step is that operation. -/
theorem stepWith_op {P : Params} {s : State} {i : Instr} (ht : s.turns = []) (hm : stageMeaning s.stage = .op i) :
    stepWith P s = execWith P i s := by
  simp only [stepWith, turnStep, ht, sequencerTurn, hm]

/-- With no turn listed and a resting state's code in STAGE, the step changes nothing. -/
theorem stepWith_resting {P : Params} {s : State} (ht : s.turns = []) (hm : stageMeaning s.stage = .resting) :
    stepWith P s = .next s := by
  simp only [stepWith, turnStep, ht, sequencerTurn, hm]

/-- The host's START in a resting state. -/
theorem stepWith_start {P : Params} {s : State} (x : FilterSpec) (hs : Stage.resting s.stage = true) :
    stepWith P { s with turns := [.lines x.ports] } = .next (beginRun { s with turns := [], wires := x.ports }) := by
  simp only [stepWith, turnStep, hostTurn, hostRequest_hostCtl, FilterSpec.ports]
  simp only [Bool.false_eq_true, if_false, if_true, execWith, execStart, hs]

/-! ### Many -/

/-- A run goes on after its first step. -/
theorem runWith_succ {P : Params} {k : Nat} {s t : State} (h : stepWith P s = .next t) :
    runWith P (k + 1) s = runWith P k t := by rw [runWith, h]

/-- From a resting state with no turn listed a run stays there. -/
theorem runWith_resting {P : Params} {s : State} (ht : s.turns = []) (hm : stageMeaning s.stage = .resting) (k : Nat) :
    runWith P k s = .next s := by
  induction k with
  | zero => rfl
  | succ k ih => rw [runWith_succ (stepWith_resting ht hm), ih]

/-- What a run ends in is what it ends in after the operation of STAGE. -/
theorem runWith_op {P : Params} {k : Nat} {s t : State} {i : Instr} {Q : State → Prop} (ht : s.turns = [])
    (hm : stageMeaning s.stage = .op i) (h : execWith P i s = .next t) (hk : ∃ u, runWith P k t = .next u ∧ Q u) :
    ∃ u, runWith P (k + 1) s = .next u ∧ Q u := by rwa [runWith_succ ((stepWith_op ht hm).trans h)]

/-- `quantizeOp` completes where its coefficient is written; it writes the word, the error and the flag of the coefficient,
STAGE, and the count of draws. A zero gives the zero word, unflagged. -/
theorem quantizeOp_some (P : Params) (c : Coef) (next : StageCode) {s : State} {x : NumTerm} (h : s.n.get c = some x) :
    ∃ w e f d, quantizeOp P c next s = .next
      { s with
        q14 := s.q14.set c (some w)
        qe := s.qe.set c (some e)
        status := { s.status with sat := s.status.sat.set c f }
        stage := next
        draws := d } ∧ (P.num.isZero x = true → w = 0#16 ∧ f = false) := by
  unfold quantizeOp
  rw [h, need_some]
  split
  · exact ⟨_, _, _, _, rfl, fun hz => by rw [quantize_of_isZero hz]; exact ⟨rfl, rfl⟩⟩
  · next hf => exact ⟨_, _, _, _, rfl, fun hz => absurd ((P.num.isZero_iff x).mp hz).1 hf⟩

/-- `runWith_op` for the quantize operations. -/
theorem runWith_quantize {P : Params} {c : Coef} {next : StageCode} (i : Instr) (hi : execWith P i = quantizeOp P c next)
    {k : Nat} {s : State} {x : NumTerm} {Q : State → Prop} (hm : stageMeaning s.stage = .op i) (ht : s.turns = [])
    (hx : s.n.get c = some x)
    (hk : ∀ w e f d, (P.num.isZero x = true → w = 0#16 ∧ f = false) → ∃ u, runWith P k
      { s with
        q14 := s.q14.set c (some w)
        qe := s.qe.set c (some e)
        status := { s.status with sat := s.status.sat.set c f }
        stage := next
        draws := d } = .next u ∧ Q u) :
    ∃ u, runWith P (k + 1) s = .next u ∧ Q u := by
  obtain ⟨w, e, f, d, h, hz⟩ := quantizeOp_some P c next hx
  exact runWith_op ht hm (hi ▸ h) (hk w e f d hz)

end Sys2Proof.Machine
end

