-- ==== Sys2Proof/Tests/Slice0.lean ====
section
/-! SUPPORT. Tests: each expected value is the spec's own (95_test_vectors.md, named by its row) or an encoding written
out from 30_encoding.md. The last part shows, for every statement with hypotheses, a state that meets them. -/

open Sys2Proof Sys2Proof.Machine

namespace Sys2Proof.Tests

/-! ### Helpers -/

/-- An integer value. -/
def int (n : Int) : NumTerm := NumTerm.ofInt n

/-- The latches of a CHK row. -/
def latched (fs f0 q : NumTerm) (c : StageCode) : State :=
  { State.reset with fs := some fs, f0 := some f0, qf := some q, stage := c, status := Status.running }

/-- Every register written by a literal, the FilterSpec that of program P1. -/
def full (c : StageCode) (ug : Bool) : State :=
  { latched (int 1000000) (int 30000) (int 3) c with
    ug := ug
    w0 := some (.lit 1 5)
    alpha := some (.lit 1 4)
    b0 := some (.lit 1 4)
    b1 := some (int 0)
    b2 := some (.lit (-1) 4)
    a0 := some (.lit 5 4)
    a1 := some (int (-1))
    a2 := some (.lit 3 4)
    n := ⟨some (int 2), some (int 0), some (int (-2)), some (.lit (-1) 10), some (.lit 1 3)⟩
    g := if ug then some (int 1) else none
    q14 := PerCoef.all (some 0x1555#16)
    qe := PerCoef.all (some (.lit 1 49152)) }

/-- Parameters for tests: the NUM that computes. -/
noncomputable def params (t : RoundTie) : Params := ⟨ratNum, t, fun _ => 0xABCD#16⟩

/-- Steps of tests, over those parameters. -/
noncomputable def tstep (s : State) : Res := stepWith (params .halfUp) s

/-- The FilterSpec of program P1 with the flag `ug`. -/
def p1 (ug : Bool) : FilterSpec := ⟨int 1000000, int 30000, int 3, ug⟩

/-- The FilterSpec of the first run of program P2. -/
def p2 : FilterSpec := ⟨int 1000000, int 500000, int 3, true⟩

/-! ### Decoding: words written out from R53 and R55 -/

theorem test_decode_chk : decode .stage [0b0001#8] = .ok (.chk, []) := by decide
theorem test_decode_drv : decode .stage [0b0010#8] = .ok (.drv, []) := by decide
theorem test_decode_nrm : decode .stage [0b0011#8] = .ok (.nrm, []) := by decide
theorem test_decode_ugn : decode .stage [0b0100#8] = .ok (.ugn, []) := by decide
theorem test_decode_qb0 : decode .stage [0b0101#8] = .ok (.qb0, []) := by decide
theorem test_decode_qb1 : decode .stage [0b0110#8] = .ok (.qb1, []) := by decide
theorem test_decode_qb2 : decode .stage [0b0111#8] = .ok (.qb2, []) := by decide
theorem test_decode_qa1 : decode .stage [0b1000#8] = .ok (.qa1, []) := by decide
theorem test_decode_qa2 : decode .stage [0b1001#8] = .ok (.qa2, []) := by decide
theorem test_decode_emit : decode .stage [0b1010#8, 0xFF#8] = .ok (.emit, [0xFF#8]) := by decide
theorem test_decode_reset : decode .hostctl [0b10#8] = .ok (.reset, []) ∧ decode .hostctl [0b11#8] = .ok (.reset, []) := by
  decide
theorem test_decode_start : decode .hostctl [0b01#8] = .ok (.start, []) := by decide

theorem test_decode_refuses_by_name :
    decode .stage [0b0000#8] = .error .restingState ∧ decode .stage [0b1011#8] = .error .restingState ∧
    decode .stage [0b1111#8] = .error .restingState ∧ decode .stage [0b1100#8] = .error .reservedStage ∧
    decode .stage [0x11#8] = .error .strayBits ∧ decode .hostctl [0b100#8] = .error .strayBits ∧
    decode .hostctl [0b00#8] = .error .noRequest ∧ decode .stage [] = .error .noBytes := by decide

/-- No two rows of the opcode map take the same word of the same format. -/
theorem test_rows_do_not_overlap :
    opRows.Pairwise fun r r' => ∀ b : Byte, r.fmt = r'.fmt → ¬(b &&& r.mask = r.pat ∧ b &&& r'.mask = r'.pat) := by
  decide +revert

theorem test_table_words :
    decodeTableWord 4 0xA = some .emit ∧ decodeTableWord 8 0x5 = some .qb0 ∧ decodeTableWord 2 0x2 = some .reset ∧
    decodeTableWord 2 0x3 = some .reset ∧ decodeTableWord 2 0x1 = some .start ∧ decodeTableWord 2 0 = none ∧
    decodeTableWord 8 0xC = none := by decide

/-! ### Well-formedness -/

theorem test_wf_accepts : (int 3).wf = true ∧ wfProgram [.lines (p1 true).ports] = false ∧
    wfProgram [.lines { undriven with rst := true }, .lines (p1 true).ports, .seq, .read .status] = true := by decide
theorem test_wf_refuses_zero_denominator : NumTerm.wf (.add .pi (.lit 1 0)) = false := by decide
theorem test_wf_refuses_ports : HostPorts.wf { undriven with f0In := .lit 1 0 } = false := by decide
theorem test_wf_refuses_turn : Turn.wf (.lines { undriven with qIn := .neg (.lit 0 0) }) = false := by decide
theorem test_wf_refuses_start_before_reset : beginsWithReset [.seq, .lines (p1 true).ports] = false := by decide
theorem test_wf_refuses_read_before_reset : beginsWithReset [.read .stage] = false := by decide

/-! ### Steps -/

/-- A table word placed in the machine is what the next step runs. -/
theorem test_fetch_stage_word : ∃ t, tstep ((full Stage.idle false).withFetchWord 4 0x1) = .next t ∧ t.stage = Stage.drv :=
  ⟨_, rfl, rfl⟩
theorem test_fetch_host_word : ∃ t, step (State.reset.withFetchWord 2 0x1) = .next t ∧ t.stage = Stage.chk :=
  ⟨_, rfl, rfl⟩

/-- Section 2.1, rows 2, 4, 7, 8, 10, 12 . -/
theorem test_chk_causes :
    causeOf ratNum (int 1000000) (int 500000) (int 3) = 0b0100#4 ∧ causeOf ratNum (int 1000000) (int 30000) (int 0) = 0b1000#4 ∧
    causeOf ratNum (int (-1)) (int 5) (int 0) = 0b1101#4 ∧ causeOf ratNum (int 1000000) (int 0) (int 3) = 0b0010#4 ∧
    causeOf ratNum (int 0) (int 0) (int 0) = 0b1111#4 ∧ causeOf ratNum (int (-4)) (int (-3)) (int 1) = 0b0011#4 := by
  decide

/-- Section 2.1, rows 15 to 17, `raw 0` standing for NaN. -/
theorem test_chk_causes_nan :
    causeOf ratNum (.raw 0) (int 30000) (int 3) = 0b0101#4 ∧ causeOf ratNum (int 1000000) (.raw 0) (int 3) = 0b0110#4 ∧
    causeOf ratNum (int 1000000) (int 30000) (.raw 0) = 0b1000#4 := by decide

/-- Program P2, step 3. -/
theorem test_chk_error_entry : ∃ t, tstep (latched (int 1000000) (int 500000) (int 3) Stage.chk) = .next t ∧
    t.stage = 0b1111#4 ∧ statusWord t.status = 0x0004#16 ∧ t.errcause = 0b0100#4 ∧ t.w0 = none :=
  ⟨_, rfl, by decide, by decide, by decide, rfl⟩

/-- Section 2.1, rows 13 and 14. -/
theorem test_chk_valid :
    (∃ t, tstep (latched (int 1000000) (.lit 499999999 1000) (.lit 1 1000000000) Stage.chk) = .next t ∧
      t.stage = 0b0010#4 ∧ t.errcause = 0#4) ∧
    (∃ t, tstep (latched (int 2) (.lit 1 2) (int 1000000000) Stage.chk) = .next t ∧ t.stage = 0b0010#4) :=
  ⟨⟨_, rfl, by decide, rfl⟩, _, rfl, by decide⟩

/-- Section 2.2, row V1, in EXACT: W0 = pi/2, A0 = 3/2. -/
theorem test_drv_v1 (port : Nat → ℝ) :
    Exact.val port (w0Formula (int 1000000) (int 250000)) = Real.pi / 2 ∧
    Exact.val port (.add (int 1) (alphaFormula (w0Formula (int 1000000) (int 250000)) (int 1))) = 3 / 2 := by
  have h : Exact.val port (w0Formula (int 1000000) (int 250000)) = Real.pi / 2 := by
    simp [int, w0Formula, Exact.val]
    ring
  refine ⟨h, ?_⟩
  have hs : Exact.val port (.sin (w0Formula (int 1000000) (int 250000))) = 1 := by
    rw [Exact.val, h, Real.sin_pi_div_two]
  simp only [alphaFormula, Exact.val, int, Exact.val_ofInt] at hs ⊢
  rw [hs, Exact.quot_of_ne (by norm_num)]
  norm_num

/-- Section 2.3, rows U2 and U8. -/
theorem test_ugn_degenerate : ∃ t, ugnOp (params .halfEven) (full Stage.ugn true) = .next t ∧
    t.stage = 0b0101#4 ∧ t.status.degen = true ∧ t.n = (full Stage.ugn true).n := ⟨_, rfl, by decide, rfl, rfl⟩
theorem test_ugn_off : ∃ t, step (full Stage.ugn false) = .next t ∧
    t.stage = 0b0101#4 ∧ t.status.degen = false ∧ t.g = none ∧ t.n = (full Stage.ugn false).n :=
  ⟨_, rfl, by decide, rfl, rfl, rfl⟩

/-- Section 2.5, the ties Q10, Q11, Q13, Q14, Q23 under the three rules. -/
theorem test_quantize_ties :
    [RoundTie.halfEven, .halfAway, .halfUp].map (fun t => quantize (params t) (.lit 1 32768))
      = [(0, false), (1, false), (1, false)] ∧
    [RoundTie.halfEven, .halfAway, .halfUp].map (fun t => quantize (params t) (.lit (-1) 32768))
      = [(0, false), (-1, false), (0, false)] ∧
    [RoundTie.halfEven, .halfAway, .halfUp].map (fun t => quantize (params t) (.lit (-3) 32768))
      = [(-2, false), (-2, false), (-1, false)] ∧
    [RoundTie.halfEven, .halfAway, .halfUp].map (fun t => quantize (params t) (.lit 5 32768))
      = [(2, false), (3, false), (3, false)] ∧
    [RoundTie.halfEven, .halfAway, .halfUp].map (fun t => quantize (params t) (.lit (-65537) 32768))
      = [(-32768, false), (-32768, true), (-32768, false)] := by decide

/-- Section 2.5, rows Q4, Q5, Q18 to Q21, Q24, whatever ROUND_TIE is. -/
theorem test_quantize_values (t : RoundTie) :
    quantize (params t) (.lit 1 10) = (1638, false) ∧ quantize (params t) (.lit (-1) 10) = (-1638, false) ∧
    quantize (params t) (.lit 65535 32768) = (32767, true) ∧ quantize (params t) (int 2) = (32767, true) ∧
    quantize (params t) (int 3) = (32767, true) ∧ quantize (params t) (int (-2)) = (-32768, false) ∧
    quantize (params t) (.lit (-32769) 16384) = (-32768, true) := by
  cases t <;> decide

/-- Rows Q19, Q1, Q21, Q5, Q6 as steps of the five quantize operations. -/
theorem test_qb0 : ∃ t, tstep (full Stage.qb0 false) = .next t ∧
    t.q14.b0 = some 0x7FFF#16 ∧ t.status.sat.b0 = true ∧ t.stage = 0b0110#4 := ⟨_, rfl, by decide⟩
theorem test_qb1 : ∃ t, tstep (full Stage.qb1 false) = .next t ∧
    t.q14.b1 = some 0x0000#16 ∧ t.status.sat.b1 = false ∧ t.stage = 0b0111#4 := ⟨_, rfl, by decide⟩
theorem test_qb2 : ∃ t, tstep (full Stage.qb2 false) = .next t ∧
    t.q14.b2 = some 0x8000#16 ∧ t.status.sat.b2 = false ∧ t.stage = 0b1000#4 := ⟨_, rfl, by decide⟩
theorem test_qa1 : ∃ t, tstep (full Stage.qa1 false) = .next t ∧
    t.q14.a1 = some 0xF99A#16 ∧ t.status.sat.a1 = false ∧ t.stage = 0b1001#4 := ⟨_, rfl, by decide⟩
theorem test_qa2 : ∃ t, tstep (full Stage.qa2 false) = .next t ∧
    t.q14.a2 = some 0x1555#16 ∧ t.status.sat.a2 = false ∧ t.stage = 0b1010#4 := ⟨_, rfl, by decide⟩

/-- Row Q26: a value that is not finite gives the drawn word, flagged. -/
theorem test_quantize_not_finite :
    ∃ t, qa1Op (params .halfUp) { full Stage.qa1 false with n := PerCoef.all (some (.raw 0)) } = .next t ∧
      t.q14.a1 = some 0xABCD#16 ∧ t.status.sat.a1 = true ∧ t.draws = 1 := ⟨_, rfl, by decide, rfl, rfl⟩

/-- Section 2.6, enc16, dec16 and LIT. -/
theorem test_words : enc16 (-496) = 0xFE10#16 ∧ enc16 (-31213) = 0x8613#16 ∧ dec16 0x8613#16 = -31213 ∧
    dec16 0x8000#16 = -32768 ∧ dec16 0x7FFF#16 = 32767 := by decide
theorem test_literals : lit 0 = ascii "16'sd0" ∧ lit 32767 = ascii "16'sd32767" ∧ lit (-32768) = ascii "-16'sd32768" := by
  decide

/-- Example S9. -/
theorem test_param_line : paramLine .b0 0x01F0#16 = ascii "signed [15:0] B0_Q14 = 16'sd496;" ++ lineFeed := by decide

/-- Section 2.6, fmt: -0.0000004, -1/3, and the tie 0.0000005; `nan`. -/
theorem test_fmt : fmt (params .halfUp) (.lit (-4) 10000000) 6 = ascii "+0.000000" ∧
    fmt (params .halfUp) (.lit (-1) 3) 6 = ascii "-0.333333" ∧
    fmt (params .halfUp) (.raw 0) 6 = ascii "nan" := by decide
theorem test_fmt_tie : fmt (params .halfAway) (.lit 5 10000000) 6 = ascii "+0.000001" ∧
    fmt (params .halfEven) (.lit 5 10000000) 6 = ascii "+0.000000" := by decide

/-- The last step of a run (program P4, step 12, but for the numbers). -/
theorem test_emit : ∃ t, tstep (full Stage.emit false) = .next t ∧
    t.stage = 0b1011#4 ∧ statusWord t.status = 0x0002#16 := ⟨_, rfl, by decide⟩

/-- Section 2.6, STATUSWORD. -/
theorem test_status_words :
    statusWord Status.zero = 0x0000#16 ∧ statusWord Status.running = 0x0001#16 ∧
    statusWord { Status.zero with done := true, sat := ⟨false, false, false, true, false⟩ } = 0x0082#16 ∧
    statusWord { Status.zero with done := true, degen := true } = 0x000A#16 ∧
    statusWord { Status.zero with done := true, sat := PerCoef.all true } = 0x01F2#16 := by decide

/-- Section 2.8, H2: RESET has priority over start, in mid-run. -/
theorem test_reset_priority :
    ∃ t, step { full Stage.qb2 true with turns := [.lines { (p1 true).ports with rst := true }] } = .next t ∧
      t.stage = 0b0000#4 ∧ t.status = Status.zero ∧ t.fs = none ∧ t.n = PerCoef.all none := ⟨_, rfl, by decide⟩

/-- H3, H4. -/
theorem test_start : ∃ t, step { full Stage.done true with turns := [.lines (p1 true).ports] } = .next t ∧
    t.fs = some (int 1000000) ∧ t.ug = true ∧ t.stage = 0b0001#4 ∧ statusWord t.status = 0x0001#16 ∧
    t.q14 = PerCoef.all none := ⟨_, rfl, by decide⟩

/-- H6: a start request in mid-run changes no register. -/
theorem test_start_ignored : ∃ t, step { full Stage.nrm true with turns := [.lines p2.ports] } = .next t ∧
    { t with wires := undriven } = full Stage.nrm true := ⟨_, rfl, rfl⟩

/-- H7, H8. -/
theorem test_reserved_stage : step (full 0b1101#4 true) = .fault (.stuckStage 0b1101#4) ∧
    exec .start (full 0b1101#4 true) = .next (full 0b1101#4 true) := ⟨rfl, rfl⟩

/-- H10, H11, H12. -/
theorem test_reads : readPort State.reset (.q14 .b0) = none ∧ readPort (full Stage.done false) .gOut = none ∧
    readPort (full Stage.done true) .gOut = some (.num (int 1)) ∧
    readPort (raiseParameterRangeError 0b0100#4 (full Stage.chk true)) .errcause = some (.errcause 0b0100#4) := by decide

/-- R32, R33: TEXT is unwritten when empty, in a DONE state in which EMIT never ran too. -/
theorem test_unwritten_text : readPort (full Stage.done true) .text = none ∧
    readPort { full Stage.done true with text := degenLine true } .text = some (.text (degenLine true)) := by decide

/-- R32: reading an unwritten register is a fault. -/
theorem test_unwritten_read_faults : exec .nrm State.reset = .fault (.unwritten .b0) ∧
    exec .qa2 State.reset = .fault (.unwritten (.n .a2)) := ⟨rfl, rfl⟩

/-- Program P2's first run, from reset. -/
theorem test_run_p2 : ∃ t, pipelineWith (params .halfEven) p2 State.reset = .next t ∧
    t.stage = 0b1111#4 ∧ statusWord t.status = 0x0004#16 ∧ t.errcause = 0b0100#4 := ⟨_, rfl, by decide⟩

/-! ### The statements' hypotheses are met -/

/-- A run on P1 from reset, where every value is finite. -/
theorem witness_run (ug : Bool) : ∃ u, pipelineWith (params .halfEven) (p1 ug) State.reset = .next u ∧
    u.stage = Stage.done := by cases ug <;> exact ⟨_, rfl, rfl⟩

/-- Every operation has a next state where every register is written and the FilterSpec is the reference one, whatever the
hardware's NUM is. -/
theorem full_exec (i : Instr) (c : StageCode) (ug : Bool) : ∃ t, exec i (full c ug) = .next t := by
  have h : filterSpecOk Config.hw.num (NumTerm.ofInt 1000000) (NumTerm.ofInt 30000) (NumTerm.ofInt 3) = true :=
    filterSpecOk_reference
  cases i <;> simp only [exec, execChk, execDrv, execQb0, execQb1, execQb2, execQa1, execQa2, qb0Op, qb1Op, qb2Op, qa1Op,
    qa2Op, chkOp, drvOp, quantizeOp, full, latched, int, need_some, PerCoef.get, h, if_true]
  case ugn => cases ug <;> exact ⟨_, rfl⟩
  case start => by_cases hc : Stage.resting c = true <;> simp [execStart, hc]
  all_goals first | exact ⟨_, rfl⟩ | (split <;> exact ⟨_, rfl⟩)

/-- DecodeAndEncodeAgree: a word and the bytes after it, of each format. -/
theorem witness_DecodeAndEncodeAgree : Instr.wf .emit = true ∧ decode .stage [0b1010#8, 1#8] = .ok (.emit, [1#8]) ∧
    decode .hostctl [0b11#8] = .ok (.reset, []) := by decide

/-- StepRunsTheDecodedOperation: a state for each of its three clauses. -/
theorem witness_StepRunsTheDecodedOperation :
    decode .stage [(full Stage.nrm true).stage.setWidth 8] = .ok (.nrm, []) ∧ (full Stage.nrm true).turns = [] ∧
    { full Stage.emit true with turns := [.seq] }.turns = .seq :: [] ∧
    decode .stage [(full Stage.emit true).stage.setWidth 8] = .ok (.emit, []) ∧
    { full Stage.emit true with turns := [.lines (p1 true).ports] }.turns = .lines (p1 true).ports :: [] ∧
    decode .hostctl [(hostCtl (p1 true).ports).setWidth 8] = .ok (.start, []) := by decide

/-- HostLinesRequest: the four values of the lines. -/
theorem witness_HostLinesRequest :
    { undriven with rst := true, start := true }.rst = true ∧ (p1 true).ports.rst = false ∧
    (p1 true).ports.start = true ∧ undriven.rst = false ∧ undriven.start = false ∧
    { State.reset with turns := [.lines undriven] }.turns = .lines undriven :: [] := by decide

/-- ReservedStageCodes. -/
theorem witness_ReservedStageCodes :
    Stage.reserved (full Stage.qb0 true).stage = false ∧ (∃ t, exec .qb0 (full Stage.qb0 true) = .next t) ∧
    step (full Stage.qb0 true) = exec .qb0 (full Stage.qb0 true) ∧ Stage.reserved (full 0b1100#4 true).stage = true ∧ Stage.reserved (full 0b1110#4 true).stage = true ∧
    (full 0b1110#4 true).turns = [] ∧
    (∃ t, step { full 0b1101#4 true with turns := [.read .status] } = .next t ∧ t.stage = 0b1101#4) ∧
    ∃ t, step { full 0b1101#4 true with turns := [.lines { undriven with rst := true }] } = .next t ∧ t.stage = Stage.idle :=
  ⟨by decide, full_exec _ _ _, rfl, by decide, by decide, rfl, ⟨_, rfl, rfl⟩, _, rfl, rfl⟩

/-- SequencerFollowsTheTable and EventFlagsAreSticky: from every operation's code there is a step, with a listed turn too,
and there are valid and invalid latches. -/
theorem witness_steps : ∀ c ∈ [Stage.chk, Stage.drv, Stage.nrm, Stage.ugn, Stage.qb0, Stage.qb1, Stage.qb2, Stage.qa1,
    Stage.qa2, Stage.emit], SequencersTurn (full c true) ∧ (∃ t, step (full c true) = .next t) ∧
      SequencersTurn { full c true with turns := [.seq] } ∧
      step { full c true with turns := [.seq] } = step (full c true) := by
  simp only [List.forall_mem_cons, List.not_mem_nil, false_implies, implies_true, and_true]
  exact ⟨⟨.inl rfl, full_exec .chk _ _, .inr ⟨_, rfl⟩, rfl⟩, ⟨.inl rfl, full_exec .drv _ _, .inr ⟨_, rfl⟩, rfl⟩,
    ⟨.inl rfl, full_exec .nrm _ _, .inr ⟨_, rfl⟩, rfl⟩, ⟨.inl rfl, full_exec .ugn Stage.ugn true, .inr ⟨_, rfl⟩, rfl⟩,
    ⟨.inl rfl, full_exec .qb0 _ _, .inr ⟨_, rfl⟩, rfl⟩, ⟨.inl rfl, full_exec .qb1 _ _, .inr ⟨_, rfl⟩, rfl⟩,
    ⟨.inl rfl, full_exec .qb2 _ _, .inr ⟨_, rfl⟩, rfl⟩, ⟨.inl rfl, full_exec .qa1 _ _, .inr ⟨_, rfl⟩, rfl⟩,
    ⟨.inl rfl, full_exec .qa2 _ _, .inr ⟨_, rfl⟩, rfl⟩, ⟨.inl rfl, full_exec .emit _ _, .inr ⟨_, rfl⟩, rfl⟩⟩

/-- ChkFrame, DrvAndNrmFrame, UgnFrame, QuantizeFrame, EmitFrame, FilterSpecIsImmutable. -/
theorem witness_frames : ∀ i ∈ [Instr.chk, .drv, .nrm, .ugn, .qb0, .qb1, .qb2, .qa1, .qa2, .emit],
    i ≠ .reset ∧ i ≠ .start ∧ ∃ t, exec i (full Stage.chk true) = .next t := by
  intro i hi
  refine ⟨?_, ?_, full_exec i _ _⟩ <;> rintro rfl <;> simp at hi

/-- ChkTestsTheFilterSpec, DrvDerivesTheAnalogCoefficients: a FilterSpec valid in the hardware's NUM; and one invalid, at
Q = 0, in every NUM. -/
theorem witness_valid_and_invalid :
    filterSpecOk Config.num (int 1000000) (int 30000) (int 3) = true ∧
    ∀ M : NUM, filterSpecOk M (int 1000000) (int 30000) (int 0) = false := by
  refine ⟨filterSpecOk_reference, fun M => Bool.eq_false_iff.mpr fun h => ?_⟩
  have h0 := (M.ofInt_exact 0 (by decide) (by decide)).2
  have := ((filterSpecOk_iff M _ _ _).mp h).2.2.2.2
  rw [int, h0] at this
  simp at this

/-- DrvHasNoMeaningOnAnInvalidFilterSpec, PipelineDesignsAValidFilterSpec, PipelineRejectsAnInvalidFilterSpec: a FilterSpec
just valid (row 14), and one invalid just at f0 = fs/2. -/
theorem witness_valid_and_invalid_at_nyquist :
    filterSpecOk ratNum (int 2) (.lit 1 2) (int 1000000000) = true ∧
    filterSpecOk ratNum (int 1000000) (int 500000) (int 3) = false ∧
    (latched (int 1000000) (int 500000) (int 3) Stage.drv).fs = some (int 1000000) ∧
    Stage.resting State.reset.stage = true := by decide

/-- ChkDecidesThePreconditions, ChkDecidesRationalFilterSpecs: the properties asked of NUM by name hold of one. -/
theorem witness_named_properties : Halves ratNum (.lit 2 1) ∧ Holds ratNum 2 1 ∧ Holds ratNum 1 1 ∧ Holds ratNum 3 1 ∧
    Holds ratNum 1 2 := by
  have h : ∀ n d, 0 < d → Holds ratNum n d := fun n d hd =>
    ⟨by simp [ratNum, ratValue, Frac.ofLit, hd.ne'], by simp [ratNum, ratFrac, ratValue, Frac.ofLit, hd.ne', fracVal]⟩
  refine ⟨fun _ => ⟨rfl, ?_⟩, h _ _ (by decide), h _ _ (by decide), h _ _ (by decide), h _ _ (by decide)⟩
  have e1 : ratFrac (.div (.lit 2 1) (NumTerm.ofInt 2)) = ⟨2, 2⟩ := by decide
  have e2 : ratFrac (.lit 2 1) = ⟨2, 1⟩ := by decide
  simp only [ratNum, e1, e2, fracVal]
  norm_num

/-- UnwrittenOperandsFault: one operand of several unwritten; OperationsCompleteOnWrittenOperands: all written. -/
theorem witness_operands_written :
    (operandsOf .emit false).find? (fun r => !State.written { full Stage.emit false with qe := PerCoef.all none } r)
      = some (.qe .b0) ∧
    (operandsOf .ugn true).find? (fun r => !State.reset.written r) = some .w0 ∧
    (∀ r ∈ operandsOf .emit true, (full Stage.emit true).written r = true) ∧
    ∀ r ∈ operandsOf .drv true, (full Stage.drv true).written r = true := by decide

/-- ChkDecidesRationalFilterSpecs: both clauses, the second at f0 = fs/2. -/
theorem witness_ChkDecidesRationalFilterSpecs :
    (0 < ((2 : Int) : ℚ) / (1 : Nat) ∧ 0 < ((1 : Int) : ℚ) / (2 : Nat) ∧
      ((1 : Int) : ℚ) / (2 : Nat) < ((2 : Int) : ℚ) / (1 : Nat) / 2 ∧ 0 < ((3 : Int) : ℚ) / (1 : Nat)) ∧
    ¬(0 < ((2 : Int) : ℚ) / (1 : Nat) ∧ 0 < ((1 : Int) : ℚ) / (1 : Nat) ∧
      ((1 : Int) : ℚ) / (1 : Nat) < ((2 : Int) : ℚ) / (1 : Nat) / 2 ∧ 0 < ((3 : Int) : ℚ) / (1 : Nat)) ∧
    (latched (.lit 2 1) (.lit 1 1) (.lit 3 1) Stage.chk).f0 = some (.lit 1 1) := ⟨by norm_num, by norm_num, rfl⟩

/-- NrmDividesByA0, EmitWritesTheText, UgnRescalesTheNumerator: the operands are written. -/
theorem witness_operands :
    (full Stage.nrm true).b0 = some (.lit 1 4) ∧ (full Stage.nrm true).a0 = some (.lit 5 4) ∧
    (full Stage.ugn false).ug = false ∧ (full Stage.ugn true).ug = true ∧ (full Stage.ugn true).w0 = some (.lit 1 5) ∧
    (full Stage.emit true).n = PerCoef.map some ⟨int 2, int 0, int (-2), .lit (-1) 10, .lit 1 3⟩ ∧
    (full Stage.emit true).q14 = PerCoef.map some (PerCoef.all 0x1555#16) ∧
    (full Stage.emit true).qe = PerCoef.map some (PerCoef.all (.lit 1 49152)) := by decide

/-- QuantizeOperationsWriteTheirWord and NonFiniteWordIsFree: a finite coefficient at the end of the range, with the flag
and without; one that is not finite. -/
theorem witness_quantize :
    IsQuantize .qa2 .a2 Stage.emit ∧ (full Stage.qb0 true).n.get .b0 = some (int 2) ∧
    Config.num.finite (int 2) = true ∧ (quantize (params .halfUp) (int 2)).2 = true ∧
    (quantize (params .halfUp) (int (-2))).2 = false ∧ (params .halfUp).num.finite (.raw 0) = false :=
  ⟨by unfold IsQuantize; decide, rfl, (Config.num.ofInt_exact 2 (by decide) (by decide)).1, by decide, by decide, by decide⟩

/-- StartBeginsARun and StartIsIgnoredDuringARun: the three resting stages, and one that is none of them. -/
theorem witness_start :
    State.reset.stage = Stage.idle ∧ (full Stage.done true).stage = Stage.done ∧ (full Stage.err true).stage = Stage.err ∧
    (full Stage.nrm true).stage ≠ Stage.idle ∧ (full Stage.nrm true).stage ≠ Stage.done ∧
    (full Stage.nrm true).stage ≠ Stage.err := by decide

/-- HostOperationsKeepWhatIsOutside. -/
theorem witness_HostOperationsKeepWhatIsOutside :
    (∃ t, exec .reset (full Stage.qb0 true) = .next t) ∧ ∃ t, exec .start (full Stage.done true) = .next t :=
  ⟨⟨_, rfl⟩, _, rfl⟩

/-- HostReads: a state for each clause. -/
theorem witness_HostReads :
    (full Stage.done true).stage = Stage.done ∧ (full Stage.done true).q14.get .a2 = some 0x1555#16 ∧
    (full Stage.done true).g = some (int 1) ∧ (full Stage.qb0 true).stage ≠ Stage.done ∧ Port.isData .text = true ∧
    (full Stage.done false).g = none ∧ (full Stage.done true).text = [] ∧
    { full Stage.done true with text := degenLine true }.text ≠ [] ∧
    { full Stage.done true with q14 := PerCoef.all none, n := PerCoef.all none, qe := PerCoef.all none }.q14.get .b2 = none ∧
    { full Stage.done true with turns := [.read .gOut] }.turns = .read .gOut :: [] ∧
    readPort { full Stage.done true with turns := [.read .gOut] } .gOut = some (.num (int 1)) ∧
    readPort { full Stage.done false with turns := [.read .gOut] } .gOut = none := by decide

/-- WordsAndIntegersAgree, QuantizeRangeOrderAndGrid: the ends of the range. -/
theorem witness_word_range : dec16 (enc16 (-32768)) = -32768 ∧ dec16 (enc16 32767) = 32767 ∧
    dec16 (enc16 32768) ≠ 32768 := by decide

/-- RoundsToNearest: a tie above zero and one below. -/
theorem witness_RoundsToNearest : (1 / 2 : ℝ) = ((0 : Int) : ℝ) + 1 / 2 ∧ (0 : ℝ) < 1 / 2 ∧
    (-1 / 2 : ℝ) = ((-1 : Int) : ℝ) + 1 / 2 ∧ (-1 / 2 : ℝ) < 0 := by norm_num

/-- QuantizeRangeOrderAndGrid, its order, its grid and its zero: a zero that is no literal 0. -/
theorem witness_QuantizeRangeOrderAndGrid (port : Nat → ℝ) :
    (Exact.num port).val (int (-2)) ≤ (Exact.num port).val (int 2) ∧
    (Exact.num port).val (dequantize (-32768)) = ((-32768 : Int) : ℝ) / 16384 ∧
    (Exact.num port).isZero (.sub .pi .pi) = true ∧ ratNum.isZero (.div (int 0) (int 3)) = true := by
  refine ⟨by simp [int], ?_, by simp [Exact.num_isZero, Exact.val], by decide⟩
  simp [dequantize, Exact.val, Config.scale]

/-- SaturationThresholds and QuantizationError: with the flag, without it, and at both ends. -/
theorem witness_saturation :
    quantize (params .halfEven) (.lit 65535 32768) = (32767, true) ∧
    quantize (params .halfEven) (.lit (-32769) 16384) = (-32768, true) ∧
    quantize (params .halfAway) (.lit (-65537) 32768) = (-32768, true) ∧
    quantize (params .halfUp) (.lit (-65537) 32768) = (-32768, false) ∧
    quantize (params .halfUp) (int (-2)) = (-32768, false) ∧ ratNum.finite (int (-2)) = true ∧ |ratNum.val (int (-2))| ≤ 2 := by
  refine ⟨by decide, by decide, by decide, by decide, by decide, by decide, ?_⟩
  rw [int, (ratNum.ofInt_exact (-2) (by decide) (by decide)).2]
  norm_num

/-- QuantizeOddSymmetry: 1 and -1, which do not saturate; 2^-15 and its opposite. -/
theorem witness_QuantizeOddSymmetry (port : Nat → ℝ) :
    ratNum.val (int (-1)) = -ratNum.val (int 1) ∧ (quantize (params .halfEven) (int 1)).2 = false ∧
    (quantize (params .halfEven) (int (-1))).2 = false ∧ (Exact.num port).val (.lit 1 32768) = 1 / 2 ^ 15 ∧
    (Exact.num port).val (.lit (-1) 32768) = -(1 / 2 ^ 15) := by
  refine ⟨?_, by decide, by decide, ?_, ?_⟩
  · rw [int, int, (ratNum.ofInt_exact (-1) (by decide) (by decide)).2, (ratNum.ofInt_exact 1 (by decide) (by decide)).2]
    norm_num
  · simp [Exact.val]
    norm_num
  · simp [Exact.val]
    norm_num

/-- FixedPointPrintsTheRoundedInteger: a finite value and one that is not. -/
theorem witness_FixedPointPrintsTheRoundedInteger :
    ratNum.finite (.lit (-1) 3) = true ∧ roundTie .halfUp (ratNum.scaled (.lit (-1) 3) (10 ^ 6)) = -333333 ∧
    ratNum.finite (.raw 0) = false := by decide

/-- The state after START meets the invariant, over any parameters: StepKeepsTheInvariant,
StepFromTheInvariantDoesNotStop, EveryRunEnds. -/
theorem witness_invariant (P : Params) : Inv P (beginRun { State.reset with wires := (p1 true).ports }) := by
  constructor
  · constructor <;>
      simp [Stage.reserved, Stage.idle, Stage.chk, stageRank, Stage.err, Stage.done, Stage.resting, Status.running,
        Status.zero, quantizedRank] <;>
      intro i <;> omega
  · constructor <;> simp [stageRank, Stage.err, Stage.done, Stage.chk]

/-- That state has a step, and it is the sequencer's turn. -/
theorem witness_invariant_steps : (beginRun { State.reset with wires := (p1 true).ports }).turns = [] ∧
    ∃ t, step (beginRun { State.reset with wires := (p1 true).ports }) = .next t := by
  refine ⟨rfl, ?_⟩
  show ∃ t, chkOp Config.hw (beginRun { State.reset with wires := (p1 true).ports }) = .next t
  unfold chkOp
  simp only [beginRun, need_some]
  split <;> exact ⟨_, rfl⟩

/-- A state before EMIT with DEGEN and every SAT set. -/
def flagged : State :=
  { full Stage.emit true with
    status := { Status.running with degen := true, sat := PerCoef.all true } }

/-- EventFlagsAreSticky: a state of that shape, with its step. -/
theorem witness_EventFlagsAreSticky : Shape flagged ∧ SequencersTurn flagged ∧ ∃ t, step flagged = .next t :=
  ⟨by constructor <;> first | decide | (intro i; cases i <;> decide), .inl rfl, _, rfl⟩

/-- PipelineIsAPureFunction: two resting states, and a run in which every coefficient is finite. -/
theorem witness_PipelineIsAPureFunction :
    Stage.resting (full Stage.err true).stage = true ∧ State.reset.draws = (full Stage.err true).draws ∧
    (∃ u, pipelineWith (params .halfEven) (p1 true) (full Stage.err true) = .next u) ∧
    ∀ i, (params .halfEven).num.finite
      ((finalCoefs ratNum (int 1000000) (int 30000) (int 3) true).get i) = true :=
  ⟨rfl, rfl, ⟨_, rfl⟩, fun i => by cases i <;> decide⟩

/-- B1StaysZero: a NUM that has the property asked by name. -/
theorem witness_ZeroQuotient : ZeroQuotient ratNum := by
  intro a b ha hb _
  simp only [ratNum, Bool.and_eq_true] at ha hb ⊢
  obtain ⟨p, hp⟩ := Option.isSome_iff_exists.mp ha.1
  obtain ⟨q, hq⟩ := Option.isSome_iff_exists.mp hb
  have hz : p.num = 0 := by simpa [ratFrac, hp, Frac.isInt] using ha.2
  by_cases h2 : q.num = 2 * q.den <;> simp [ratValue, ratFrac, hp, hq, h2, Frac.isInt, hz]

/-- B1StaysZero: a run that meets its other hypotheses. -/
theorem witness_B1StaysZero : ∃ u a0, pipelineWith (params .halfEven) (p1 true) State.reset = .next u ∧
    u.stage = Stage.done ∧ u.a0 = some a0 ∧ ratNum.finite a0 = true ∧ ratNum.isZero a0 = false ∧
    ratNum.finite (gainOf (int 1000000) (int 30000) (int 3)) = true :=
  ⟨_, _, rfl, rfl, rfl, rfl, rfl, rfl⟩

/-- From QB0 on: the registers that NUM_A1 and NUM_B1 speak of. -/
theorem ends_from_qb0 (P : Params) {s : State} {n : PerCoef NumTerm} (ht : s.turns = []) (hs : s.stage = Stage.qb0)
    (hn : s.n = n.map some) : ∃ u, runWith P 6 s = .next u ∧ u.stage = Stage.done ∧ u.a1 = s.a1 ∧ u.b1 = s.b1 ∧
      u.n = s.n ∧ (P.num.isZero n.b1 = true → u.q14.b1 = some 0#16) := by
  have e : ∀ i, s.n.get i = some (n.get i) := fun i => by rw [hn, PerCoef.get_map]
  refine runWith_quantize .qb0 rfl (hs ▸ stageMeaning_qb0) ht (e .b0) fun w0 e0 f0 _ _ => ?_
  refine runWith_quantize .qb1 rfl stageMeaning_qb1 ht (e .b1) fun w1 e1 f1 _ hz => ?_
  refine runWith_quantize .qb2 rfl stageMeaning_qb2 ht (e .b2) fun w2 e2 f2 _ _ => ?_
  refine runWith_quantize .qa1 rfl stageMeaning_qa1 ht (e .a1) fun w3 e3 f3 _ _ => ?_
  refine runWith_quantize .qa2 rfl stageMeaning_qa2 ht (e .a2) fun w4 e4 f4 _ _ => ?_
  refine runWith_op (t := endRun (outputText P n ⟨w0, w1, w2, w3, w4⟩ ⟨e0, e1, e2, e3, e4⟩ ⟨f0, f1, f2, f3, f4⟩
    s.status.degen) _) ht stageMeaning_emit (by simp only [execWith, emitOp, hn, needAll_some]; rfl) ?_
  exact ⟨_, rfl, rfl, rfl, rfl, hn.symm, fun h => by rw [← (hz h).1]; rfl⟩

/-- A run from reset on a valid FilterSpec, as far as those registers go. -/
theorem designs_valid (P : Params) (x : FilterSpec) (h : filterSpecOk P.num x.fs x.f0 x.q = true) :
    ∃ u, pipelineWith P x State.reset = .next u ∧ u.stage = Stage.done ∧
      u.a1 = some (.neg (.mul (NumTerm.ofInt 2) (.cos (w0Formula x.fs x.f0)))) ∧ u.b1 = some (NumTerm.ofInt 0) ∧
      u.n = (finalCoefs P.num x.fs x.f0 x.q x.ug).map some ∧
      (P.num.isZero (finalCoefs P.num x.fs x.f0 x.q x.ug).b1 = true → u.q14.b1 = some 0#16) := by
  rw [pipelineWith, runWith_succ (stepWith_start x rfl)]
  refine runWith_op rfl stageMeaning_chk (if_pos h) ?_
  refine runWith_op rfl stageMeaning_drv (if_pos h) ?_
  refine runWith_op rfl stageMeaning_nrm rfl ?_
  cases hu : x.ug
  · refine runWith_op rfl stageMeaning_ugn (if_neg (Bool.not_eq_true _ ▸ hu)) ?_
    exact ends_from_qb0 P rfl rfl rfl
  · refine runWith_op rfl stageMeaning_ugn (if_pos hu) ?_
    unfold applyGain
    split
    · next hz =>
      have hz' : P.num.isZero (gainOf x.fs x.f0 x.q) = true := hz
      rw [show finalCoefs P.num x.fs x.f0 x.q true = normalizedOf x.fs x.f0 x.q from if_neg (by simp [hz'])]
      exact ends_from_qb0 P rfl rfl rfl
    · next hz =>
      have hz' : P.num.isZero (gainOf x.fs x.f0 x.q) = false := Bool.eq_false_iff.mpr hz
      rw [show finalCoefs P.num x.fs x.f0 x.q true = _ from if_pos (by simp [hz'])]
      exact ends_from_qb0 P rfl rfl rfl

/-- A FilterSpec on which a run ends in DONE is valid. -/
theorem valid_of_designs {P : Params} {x : FilterSpec} {u : State} (h : Designs P x u) :
    filterSpecOk P.num x.fs x.f0 x.q = true := by
  by_contra hf
  have hc : execWith P .chk (beginRun { State.reset with wires := x.ports }) =
      .next (raiseParameterRangeError (causeOf P.num x.fs x.f0 x.q) (beginRun { State.reset with wires := x.ports })) :=
    if_neg hf
  have hr : pipelineWith P x State.reset = _ := (runWith_succ (stepWith_start x rfl)).trans
    ((runWith_succ ((stepWith_op rfl stageMeaning_chk).trans hc)).trans (runWith_resting rfl stageMeaning_err _))
  cases hr.symm.trans h.1
  cases h.2

/-- B1IsZeroByNumB1: parameters with NUM_B1; `witness_run` is a run over them. -/
theorem witness_NumB1 (r : RoundTie) : NumB1 (params r) := by
  intro x t b n h hb hn
  obtain ⟨u, h1, -, -, h4, h5, h6⟩ := designs_valid (params r) x (valid_of_designs h)
  cases h1.symm.trans h.1
  cases h4.symm.trans hb
  rw [h5] at hn
  have hz : ratNum.isZero (finalCoefs (params r).num x.fs x.f0 x.q x.ug).b1 = true := by
    unfold finalCoefs
    dsimp only
    split <;> rfl
  cases hn
  exact ⟨rfl, hz, h6 hz⟩

/-- The statements about exact arithmetic: FilterSpecs valid in EXACT, that of P1 and that of P5 (Q < 1/2). -/
theorem witness_exact_valid (port : Nat → ℝ) :
    Exact.Valid port referenceSpec ∧ Exact.Valid port ⟨int 48000, int 12000, .lit 1 4, true⟩ := by
  simp only [Exact.Valid, referenceSpec, int, Exact.val_ofInt, Exact.val]
  norm_num

/-- ExactAnalogCoefficients: a state with such latches. -/
theorem witness_ExactAnalogCoefficients :
    (latched referenceSpec.fs referenceSpec.f0 referenceSpec.q Stage.drv).fs = some referenceSpec.fs ∧
    (latched referenceSpec.fs referenceSpec.f0 referenceSpec.q Stage.drv).f0 = some referenceSpec.f0 ∧
    (latched referenceSpec.fs referenceSpec.f0 referenceSpec.q Stage.drv).qf = some referenceSpec.q := by decide

/-- NamedPropertiesNeedTheReferenceSpecValid: parameters with NUM_A1. -/
theorem witness_NumA1 (port : Nat → ℝ) (r : RoundTie) (free : Nat → Word) : NumA1 (Exact.params port r free) := by
  obtain ⟨u, h1, h2, h3, -⟩ := designs_valid (Exact.params port r free) referenceSpec
    ((Exact.filterSpecOk_exact _ _ _ _).mpr (witness_exact_valid port).1)
  refine ⟨⟨u, h1, h2⟩, fun t a ⟨ht, _⟩ ha => ?_⟩
  cases h1.symm.trans ht
  cases h3.symm.trans ha
  refine ⟨rfl, ?_⟩
  show |Exact.val port _ - _| ≤ _
  simp [Exact.val, w0Formula, referenceSpec]

end Sys2Proof.Tests
end

section
/-! PROOFS. The statements of 00_scope.md: what an operation reads, what a run ends in, rounding, and EXACT. -/

namespace Sys2Proof.Machine

/-! ### The hardware's parameters, and what a step runs (R9, R17, R55) -/

theorem execWith_hw : execWith Config.hw = exec := by
  funext i s
  cases i <;> rfl

theorem stepWith_hw : stepWith Config.hw = step := by
  funext s
  rw [stepWith, execWith_hw, step]

/-- Settles O7: the twelve arms of `exec` are those of `execWith` at `Config.hw`. -/
theorem hardwareIsAnInstance : Obligations.HardwareIsAnInstance :=
  ⟨fun i s => by rw [execWith_hw], fun s => by rw [stepWith_hw]⟩

theorem decodeWord_of_decode {f : Format} {b : Byte} {i : Instr} (h : decode f [b] = .ok (i, [])) :
    decodeWord f b = .ok i := by
  cases hw : decodeWord f b with
  | ok j => simpa [decode, hw] using h
  | error e => simp [decode, hw] at h

theorem stageMeaning_of_decode {c : StageCode} {i : Instr} (h : decode .stage [c.setWidth 8] = .ok (i, [])) :
    stageMeaning c = .op i := by
  rw [stageMeaning, decodeWord_of_decode h]

theorem hostRequest_of_decode {c : HostCtl} {i : Instr} (h : decode .hostctl [c.setWidth 8] = .ok (i, [])) :
    hostRequest c = some i := by
  rw [hostRequest, decodeWord_of_decode h]

theorem sequencerTurn_op {run : Instr → State → Res} {s : State} {i : Instr} (h : stageMeaning s.stage = .op i) :
    sequencerTurn run s = run i s := by
  rw [sequencerTurn, h]

theorem hostTurn_request {run : Instr → State → Res} {s : State} {i : Instr} (h : hostRequest (hostCtl s.wires) = some i) :
    hostTurn run s = run i s := by
  rw [hostTurn, h]

/-! Whose turn it is, for each head of the list of turns. -/
section
variable {run : Instr → State → Res} {s : State} {rest : List Turn}

theorem turnStep_of_nil (h : s.turns = []) : turnStep run s = sequencerTurn run s := by
  rw [turnStep, h]

theorem turnStep_of_seq (h : s.turns = .seq :: rest) : turnStep run s = sequencerTurn run { s with turns := rest } := by
  rw [turnStep, h]

theorem turnStep_of_lines {w : HostPorts} (h : s.turns = .lines w :: rest) :
    turnStep run s = hostTurn run { s with turns := rest, wires := w } := by
  rw [turnStep, h]

theorem turnStep_of_read {p : Port} (h : s.turns = .read p :: rest) :
    turnStep run s = execRead p { s with turns := rest } := by
  rw [turnStep, h]

end

/-- Settles O3: the turn picks the agent, and its decoded word picks the operation. -/
theorem stepRunsTheDecodedOperation : Obligations.StepRunsTheDecodedOperation := by
  refine ⟨fun s i ht hd => ?_, fun s i rest ht hd => ?_, fun s i w rest ht hd => ?_⟩
  · exact (turnStep_of_nil ht).trans (sequencerTurn_op (stageMeaning_of_decode hd))
  · exact (turnStep_of_seq ht).trans (sequencerTurn_op (stageMeaning_of_decode hd))
  · exact (turnStep_of_lines ht).trans (hostTurn_request (hostRequest_of_decode hd))

/-! ### What an operation reads (R16, R18, R32) -/

/-- `a` is the answer, in state `s`, of an operation that reads the registers `rs` in that order and then completes where
`C` holds. -/
structure Reads (s : State) (C : Prop) (rs : List Reg) (a : Res) : Prop where
  faults : ∀ r, rs.find? (fun r => !s.written r) = some r → a = .fault (.unwritten r)
  completes : (∀ r ∈ rs, s.written r = true) → C → ∃ t, a = .next t

namespace Reads
variable {s : State} {C : Prop} {rs : List Reg} {α : Type}

theorem nil {a : Res} (h : C → ∃ t, a = .next t) : Reads s C [] a :=
  ⟨fun _ hf => by simp at hf, fun _ => h⟩

theorem next (t : State) : Reads s C [] (.next t) := nil fun _ => ⟨t, rfl⟩

theorem need {r : Reg} {v : Option α} {k : α → Res} (hv : s.written r = v.isSome)
    (hk : ∀ x, v = some x → Reads s C rs (k x)) : Reads s C (r :: rs) (Machine.need r v k) := by
  cases v with
  | none =>
    have hr : s.written r = false := hv
    exact ⟨fun r' hf => by simp_all, fun hw => by simp [hr] at hw⟩
  | some x =>
    have hr : s.written r = true := hv
    obtain ⟨hf, hc⟩ := hk x rfl
    exact ⟨fun r' h => hf r' (by simpa [hr] using h), fun hw => hc fun r' hr' => hw r' (List.mem_cons_of_mem r hr')⟩

theorem needAll {r : Coef → Reg} {v : PerCoef (Option α)} {k : PerCoef α → Res}
    (hv : ∀ i, s.written (r i) = (v.get i).isSome) (hk : ∀ x, Reads s C rs (k x)) :
    Reads s C (Coef.all.map r ++ rs) (Machine.needAll r v k) :=
  need (hv .b0) fun _ _ => need (hv .b1) fun _ _ => need (hv .b2) fun _ _ => need (hv .a1) fun _ _ =>
    need (hv .a2) fun _ _ => hk _

end Reads

/-- The latched FilterSpec passes CHK's tests (R70, R74). -/
def LatchesValid (M : NUM) (s : State) : Prop :=
  ∀ fs f0 q, s.fs = some fs → s.f0 = some f0 → s.qf = some q → filterSpecOk M fs f0 q = true

section
variable (P : Params) (s : State) (C : Prop)

theorem chkOp_reads : Reads s C [.fs, .f0, .qf] (chkOp P s) := by
  refine .need rfl fun fs _ => .need rfl fun f0 _ => .need rfl fun q _ => ?_
  split
  · exact .next _
  · exact .next _

theorem drvOp_reads : Reads s (LatchesValid P.num s) [.fs, .f0, .qf] (drvOp P s) := by
  refine .need rfl fun fs h1 => .need rfl fun f0 h2 => .need rfl fun q h3 => .nil fun hv => ?_
  exact ⟨_, if_pos (hv fs f0 q h1 h2 h3)⟩

theorem nrmOp_reads : Reads s C [.b0, .b1, .b2, .a0, .a1, .a2] (nrmOp s) :=
  .need rfl fun _ _ => .need rfl fun _ _ => .need rfl fun _ _ => .need rfl fun _ _ => .need rfl fun _ _ =>
    .need rfl fun _ _ => .next _

theorem ugnOp_reads : Reads s C (operandsOf .ugn s.ug) (ugnOp P s) := by
  cases hu : s.ug with
  | false =>
    simp only [operandsOf, ugnOp, hu, Bool.false_eq_true, if_false]
    exact .next _
  | true =>
    simp only [operandsOf, ugnOp, hu, if_true]
    exact .need rfl fun _ _ => .needAll (r := .n) (rs := []) (fun _ => rfl) fun _ => .next _

theorem quantizeOp_reads (c : Coef) (next : StageCode) : Reads s C [.n c] (quantizeOp P c next s) := by
  refine .need rfl fun x _ => ?_
  split
  · exact .next _
  · exact .next _

theorem emitOp_reads : Reads s C (operandsOf .emit s.ug) (emitOp P s) :=
  .needAll (r := .n) (rs := Coef.all.map .q14 ++ (Coef.all.map .qe ++ [])) (fun _ => rfl) fun _ =>
    .needAll (r := .q14) (fun _ => rfl) fun _ => .needAll (r := .qe) (fun _ => rfl) fun _ => .next _

theorem execStart_next_state : ∃ t, execStart s = .next t := by
  unfold execStart
  split
  · exact ⟨_, rfl⟩
  · exact ⟨_, rfl⟩

end

/-- Every operation reads its operands, in the order of the Operands line, and DRV alone asks more than that. -/
theorem execWith_reads (P : Params) (i : Instr) (s : State) :
    Reads s (i = .drv → LatchesValid P.num s) (operandsOf i s.ug) (execWith P i s) := by
  cases i with
  | chk => exact chkOp_reads P s _
  | drv =>
    obtain ⟨hf, hc⟩ := drvOp_reads P s
    exact ⟨hf, fun hw hv => hc hw (hv rfl)⟩
  | nrm => exact nrmOp_reads s _
  | ugn => exact ugnOp_reads P s _
  | qb0 => exact quantizeOp_reads P s _ .b0 _
  | qb1 => exact quantizeOp_reads P s _ .b1 _
  | qb2 => exact quantizeOp_reads P s _ .b2 _
  | qa1 => exact quantizeOp_reads P s _ .a1 _
  | qa2 => exact quantizeOp_reads P s _ .a2 _
  | emit => exact emitOp_reads P s _
  | reset => exact .next _
  | start => exact .nil fun _ => execStart_next_state s

/-- Settles O56: the operands are read in the order of the Operands line, so the first unwritten one faults. -/
theorem unwrittenOperandsFault : Obligations.UnwrittenOperandsFault := by
  intro i s r hr
  rw [← execWith_hw]
  exact (execWith_reads Config.hw i s).faults r hr

/-- Settles O57: where the operands are written nothing but DRV's precondition can stop an operation. -/
theorem operationsCompleteOnWrittenOperands : Obligations.OperationsCompleteOnWrittenOperands := by
  intro i s hw hv
  rw [← execWith_hw]
  exact (execWith_reads Config.hw i s).completes hw hv

/-! ### From the invariant the step does not stop (R18, R54, R74) -/

/-- The rank of STAGE from which on a register is written; G, which UG = 0 leaves unwritten, is written no sooner. -/
def writtenRank : Reg → Nat
  | .fs | .f0 | .qf => 1
  | .w0 | .alpha | .b0 | .b1 | .b2 | .a0 | .a1 | .a2 => 3
  | .n _ => 4
  | .g => 5
  | .q14 i | .qe i => quantizedRank i

theorem Shape.written_eq {s : State} (h : Shape s) {r : Reg} (hr : r ≠ .g) :
    s.written r = decide (writtenRank r ≤ stageRank s.stage) := by
  cases r with
  | fs => exact h.fs
  | f0 => exact h.f0
  | qf => exact h.qf
  | w0 => exact h.w0
  | alpha => exact h.alpha
  | b0 => exact h.b0
  | b1 => exact h.b1
  | b2 => exact h.b2
  | a0 => exact h.a0
  | a1 => exact h.a1
  | a2 => exact h.a2
  | n i => exact h.n i
  | g => exact absurd rfl hr
  | q14 i => exact h.q14 i
  | qe i => exact h.qe i

/-- A stage operation's operands are written by the operations before it. -/
theorem writtenRank_operands {i : Instr} (hi : i.format = .stage) (ug : Bool) :
    ∀ r ∈ operandsOf i ug, r ≠ .g ∧ writtenRank r ≤ stageRank ((encodeWord i).setWidth 4) := by
  cases i with
  | reset => cases hi
  | start => cases hi
  | _ => cases ug <;> decide

theorem Shape.operands_written {s : State} (h : Shape s) {i : Instr} (hi : i.format = .stage)
    (hc : (encodeWord i).setWidth 4 = s.stage) : ∀ r ∈ operandsOf i s.ug, s.written r = true := by
  intro r hr
  obtain ⟨hg, hle⟩ := writtenRank_operands hi s.ug r hr
  rw [h.written_eq hg, ← hc]
  exact decide_eq_true hle

/-- At DRV the latches have passed CHK. -/
theorem Computed.latchesValid {P : Params} {s : State} (h : Computed P s) (hs : s.stage = Stage.drv) :
    LatchesValid P.num s := fun fs f0 q h1 h2 h3 => h.valid fs f0 q h1 h2 h3 (by rw [hs]; decide)

/-- The invariant does not look at the turns to come. -/
theorem Inv.withTurns {P : Params} {s : State} (h : Inv P s) (rest : List Turn) : Inv P { s with turns := rest } :=
  ⟨{ h.1 with }, { h.2 with }⟩

theorem Inv.sequencerTurn_next {P : Params} {s : State} (h : Inv P s) :
    ∃ t, sequencerTurn (execWith P) s = .next t := by
  obtain ⟨hs, hc⟩ := h
  obtain ⟨i, hm, hi, he⟩ | ⟨hm, -⟩ | ⟨-, hr⟩ := stageMeaning_cases s.stage
  · rw [sequencerTurn_op hm]
    exact (execWith_reads P i s).completes (hs.operands_written hi he) fun hd =>
      hc.latchesValid (by rw [← he, hd]; decide)
  · exact ⟨s, by rw [sequencerTurn, hm]⟩
  · rw [hs.defined] at hr
    cases hr

/-- The host's turn never stops: RESET and START read no operand. -/
theorem hostTurn_next_state (P : Params) (s : State) : ∃ t, hostTurn (execWith P) s = .next t := by
  unfold hostTurn
  rw [hostRequest_hostCtl]
  cases s.wires.rst with
  | true => exact ⟨_, rfl⟩
  | false =>
    cases s.wires.start with
    | true => exact execStart_next_state s
    | false => exact ⟨_, rfl⟩

theorem readPort_withTurns (s : State) (rest : List Turn) (p : Port) :
    readPort { s with turns := rest } p = readPort s p := by
  cases p <;> rfl

theorem execRead_of_defined {p : Port} {s : State} (h : readPort s p ≠ none) : execRead p s = .next s := by
  obtain ⟨v, hv⟩ := Option.ne_none_iff_exists'.mp h
  rw [execRead, hv]

theorem Inv.stepWith_next {P : Params} {s : State} (h : Inv P s)
    (hread : ∀ p rest, s.turns = .read p :: rest → readPort s p ≠ none) : ∃ t, stepWith P s = .next t := by
  unfold stepWith
  match ht : s.turns with
  | [] =>
    rw [turnStep_of_nil ht]
    exact h.sequencerTurn_next
  | .seq :: rest =>
    rw [turnStep_of_seq ht]
    exact (h.withTurns rest).sequencerTurn_next
  | .lines w :: rest =>
    rw [turnStep_of_lines ht]
    exact hostTurn_next_state P _
  | .read p :: rest =>
    have hp : readPort { s with turns := rest } p ≠ none := by
      rw [readPort_withTurns]
      exact hread p rest ht
    exact ⟨_, by rw [turnStep_of_read ht, execRead_of_defined hp]⟩

/-- Settles O41, turn by turn: the sequencer's by the invariant, the host's always, a read by its hypothesis. -/
theorem stepFromTheInvariantDoesNotStop : Obligations.StepFromTheInvariantDoesNotStop := by
  intro s h hread
  rw [← stepWith_hw]
  exact h.stepWith_next hread

/-! ### Rounding (R14) -/

/-- At a tie ROUND_TIE picks one of the two neighbours. -/
theorem roundTie_tie (t : RoundTie) (k : Int) : roundTie t ⟨k, .tie⟩ = k ∨ roundTie t ⟨k, .tie⟩ = k + 1 := by
  cases t <;> simp only [roundTie]
  case halfEven => split <;> simp
  case halfAway => split <;> simp
  case halfUp => simp

theorem abs_roundTie_sub_le (t : RoundTie) (v : ℝ) : |(roundTie t (Scaled.ofReal v) : ℝ) - v| ≤ 1 / 2 := by
  have hv : (⌊v⌋ : ℝ) + Int.fract v = v := Int.floor_add_fract v
  have h0 : 0 ≤ Int.fract v := Int.fract_nonneg v
  have h1 : Int.fract v < 1 := Int.fract_lt_one v
  rw [abs_le]
  obtain ⟨hf, hr⟩ | ⟨hf, hr⟩ | ⟨hf, hr⟩ := roundTie_cases t v
  · rw [hr]
    constructor <;> linarith
  · rw [hr]
    push_cast
    constructor <;> linarith
  · rw [hr]
    obtain hk | hk := roundTie_tie t ⌊v⌋
    · rw [hk]
      constructor <;> linarith
    · rw [hk]
      push_cast
      constructor <;> linarith

theorem ofReal_add_half (k : Int) : Scaled.ofReal ((k : ℝ) + 1 / 2) = ⟨k, .tie⟩ := by
  have hfl : ⌊(k : ℝ) + 1 / 2⌋ = k := by
    rw [Int.floor_eq_iff]
    constructor <;> linarith
  have hfr : Int.fract ((k : ℝ) + 1 / 2) = 1 / 2 := by
    rw [Int.fract, hfl]
    ring
  simp only [Scaled.ofReal, hfl, hfr, lt_irrefl, if_false, if_true]

/-- half_even picks the even neighbour. -/
theorem even_roundTie_halfEven (k : Int) : Even (roundTie .halfEven ⟨k, .tie⟩) := by
  rw [Int.even_iff]
  simp only [roundTie]
  split
  · assumption
  · omega

/-- Settles O31: away from a tie by the fractional part, at a tie by the rule's own branch. -/
theorem roundsToNearest : Obligations.RoundsToNearest := by
  refine ⟨abs_roundTie_sub_le, fun k v hv => ?_⟩
  subst hv
  rw [ofReal_add_half]
  refine ⟨⟨even_roundTie_halfEven k, roundTie_tie _ k⟩, fun hpos => ?_, fun hneg => ?_, rfl⟩
  · have hk : -1 < k := by exact_mod_cast (by linarith : (-1 : ℝ) < k)
    exact if_pos (show 0 ≤ k by omega)
  · have hk : k < 0 := by exact_mod_cast (by linarith : (k : ℝ) < 0)
    exact if_neg (show ¬0 ≤ k by omega)

end Sys2Proof.Machine
end

section
/-! PROOFS. PIPELINE (44_host_interface.md R122) in one equation: the state a run from a resting state ends in, and what
follows from it of whole runs. -/

namespace Sys2Proof.Machine

/-! ### Quantizing in a row (R90, R96) -/

/-- What quantizing one value gives: the integer, its flag, and how many words have been drawn after it. -/
structure QuantResult where
  q     : Int
  sat   : Bool
  draws : Nat

/-- What quantizing `x` gives when `d` words have been drawn before it. -/
def quantizeAfter (P : Params) (d : Nat) (x : NumTerm) : QuantResult :=
  if P.num.finite x then ⟨(quantize P x).1, (quantize P x).2, d⟩ else ⟨dec16 (P.freeWord d), true, d + 1⟩

theorem quantizeAfter_of_finite {P : Params} {x : NumTerm} (h : P.num.finite x = true) (d : Nat) :
    quantizeAfter P d x = ⟨(quantize P x).1, (quantize P x).2, d⟩ := if_pos h

theorem quantizeAfter_of_isZero {P : Params} {x : NumTerm} (h : P.num.isZero x = true) (d : Nat) :
    quantizeAfter P d x = ⟨0, false, d⟩ := by
  rw [quantizeAfter_of_finite ((P.num.isZero_iff x).mp h).1, quantize_of_isZero h]

/-- What the five quantize operations give, each drawing after the one before it. -/
def quantizeFive (P : Params) (d : Nat) (n : PerCoef NumTerm) : PerCoef QuantResult :=
  let r0 := quantizeAfter P d n.b0
  let r1 := quantizeAfter P r0.draws n.b1
  let r2 := quantizeAfter P r1.draws n.b2
  let r3 := quantizeAfter P r2.draws n.a1
  ⟨r0, r1, r2, r3, quantizeAfter P r3.draws n.a2⟩

/-- The five words. -/
def wordsOf (r : PerCoef QuantResult) : PerCoef Word := r.map fun y => enc16 y.q

/-- The five flags. -/
def satOf (r : PerCoef QuantResult) : PerCoef Bool := r.map QuantResult.sat

/-- The five errors. -/
def errorsOf (n : PerCoef NumTerm) (r : PerCoef QuantResult) : PerCoef NumTerm :=
  ⟨qerr n.b0 r.b0.q, qerr n.b1 r.b1.q, qerr n.b2 r.b2.q, qerr n.a1 r.a1.q, qerr n.a2 r.a2.q⟩

/-- Where every coefficient is finite no word is drawn. -/
theorem quantizeFive_of_finite {P : Params} {n : PerCoef NumTerm} (h : ∀ i, P.num.finite (n.get i) = true) (d : Nat) :
    quantizeFive P d n = n.map fun x => ⟨(quantize P x).1, (quantize P x).2, d⟩ := by
  have h0 := quantizeAfter_of_finite (h .b0)
  have h1 := quantizeAfter_of_finite (h .b1)
  have h2 := quantizeAfter_of_finite (h .b2)
  have h3 := quantizeAfter_of_finite (h .a1)
  have h4 := quantizeAfter_of_finite (h .a2)
  simp only [PerCoef.get] at h0 h1 h2 h3 h4
  simp only [quantizeFive, PerCoef.map, h0, h1, h2, h3, h4]

/-- The writes of a quantize operation that gives `r`. -/
def writeResult (c : Coef) (x : NumTerm) (r : QuantResult) (next : StageCode) (s : State) : State :=
  { writeQuantized c x r.q r.sat next s with draws := r.draws }

section
variable (c : Coef) (x : NumTerm) (r : QuantResult) (next : StageCode) (s : State)

@[simp] theorem writeResult_n : (writeResult c x r next s).n = s.n := rfl
@[simp] theorem writeResult_stage : (writeResult c x r next s).stage = next := rfl
@[simp] theorem writeResult_turns : (writeResult c x r next s).turns = s.turns := rfl
@[simp] theorem writeResult_draws : (writeResult c x r next s).draws = r.draws := rfl
@[simp] theorem writeResult_q14 : (writeResult c x r next s).q14 = s.q14.set c (some (enc16 r.q)) := rfl
@[simp] theorem writeResult_qe : (writeResult c x r next s).qe = s.qe.set c (some (qerr x r.q)) := rfl
@[simp] theorem writeResult_status :
    (writeResult c x r next s).status = { s.status with sat := s.status.sat.set c r.sat } := rfl

end

/-- A quantize operation, by what quantizing its coefficient gives. -/
theorem quantizeOp_eq {P : Params} {c : Coef} (next : StageCode) {s : State} {x : NumTerm} {r : QuantResult}
    (hx : s.n.get c = some x) (hr : quantizeAfter P s.draws x = r) :
    quantizeOp P c next s = .next (writeResult c x r next s) := by
  subst hr
  rw [quantizeOp, hx, need_some, quantizeAfter]
  split
  · rfl
  · rfl

/-- EMIT where its operands are written. -/
theorem emitOp_eq {P : Params} {s : State} {n e : PerCoef NumTerm} {q : PerCoef Word} (hn : s.n = n.map some)
    (hq : s.q14 = q.map some) (he : s.qe = e.map some) :
    emitOp P s = .next (endRun (outputText P n q e s.status.sat s.status.degen) s) := by
  rw [emitOp, hn, hq, he, needAll_some, needAll_some, needAll_some]

/-! ### UGN's coefficients (R82) -/

theorem finalCoefs_of_isZero {M : NUM} {fs f0 q : NumTerm} (h : M.isZero (gainOf fs f0 q) = true) (ug : Bool) :
    finalCoefs M fs f0 q ug = normalizedOf fs f0 q := if_neg (by simp [h])

theorem finalCoefs_of_not_isZero {M : NUM} {fs f0 q : NumTerm} (h : M.isZero (gainOf fs f0 q) = false) :
    finalCoefs M fs f0 q true =
      { normalizedOf fs f0 q with
        b0 := .div (normalizedOf fs f0 q).b0 (gainOf fs f0 q)
        b1 := .div (normalizedOf fs f0 q).b1 (gainOf fs f0 q)
        b2 := .div (normalizedOf fs f0 q).b2 (gainOf fs f0 q) } := if_pos (by simp [h])

/-! ### The states of a run -/

/-- The state after START on `x`, when `d` words have been drawn: of what was before it nothing else is left (R117). -/
def started (x : FilterSpec) (d : Nat) : State := beginRun { State.reset with wires := x.ports, draws := d }

/-- The end of a run on an invalid FilterSpec (R131). -/
def rejected (P : Params) (x : FilterSpec) (d : Nat) : State :=
  raiseParameterRangeError (causeOf P.num x.fs x.f0 x.q) (started x d)

/-- The state that UGN finds (R80). -/
def normalized (x : FilterSpec) (d : Nat) : State :=
  { writeAnalog x.fs x.f0 x.q (started x d) with
    n := (normalizedOf x.fs x.f0 x.q).map some
    stage := Stage.ugn }

/-- The state that QB0 finds (R82). -/
def rescaled (P : Params) (x : FilterSpec) (d : Nat) : State :=
  { normalized x d with
    n := (finalCoefs P.num x.fs x.f0 x.q x.ug).map some
    g := if x.ug then some (gainOf x.fs x.f0 x.q) else none
    status := { Status.running with degen := x.ug && P.num.isZero (gainOf x.fs x.f0 x.q) }
    stage := Stage.qb0 }

/-- The end of a run that has coefficients `n` at QB0, of which quantizing gives `r` (R97 to R101, R105). -/
def finished (P : Params) (n : PerCoef NumTerm) (r : PerCoef QuantResult) (s : State) : State :=
  endRun (outputText P n (wordsOf r) (errorsOf n r) (satOf r) s.status.degen)
    { s with
      q14 := (wordsOf r).map some
      qe := (errorsOf n r).map some
      status := { s.status with sat := satOf r }
      draws := r.a2.draws }

/-- The end of a run on a valid FilterSpec (R121). -/
def designed (P : Params) (x : FilterSpec) (d : Nat) : State :=
  finished P (finalCoefs P.num x.fs x.f0 x.q x.ug) (quantizeFive P d (finalCoefs P.num x.fs x.f0 x.q x.ug))
    (rescaled P x d)

/-- The end of a run. -/
def ended (P : Params) (x : FilterSpec) (d : Nat) : State :=
  if filterSpecOk P.num x.fs x.f0 x.q then designed P x d else rejected P x d

theorem ended_of_valid {P : Params} {x : FilterSpec} (h : filterSpecOk P.num x.fs x.f0 x.q = true) (d : Nat) :
    ended P x d = designed P x d := if_pos h

theorem ended_of_invalid {P : Params} {x : FilterSpec} (h : filterSpecOk P.num x.fs x.f0 x.q = false) (d : Nat) :
    ended P x d = rejected P x d := if_neg (Bool.eq_false_iff.mp h)

/-- The operation of STAGE, and then the rest of the run. -/
theorem runWith_succ_op {P : Params} {k : Nat} {s t : State} {i : Instr} (ht : s.turns = [])
    (hm : stageMeaning s.stage = .op i) (h : execWith P i s = .next t) : runWith P (k + 1) s = runWith P k t :=
  runWith_succ ((stepWith_op ht hm).trans h)

/-- Nothing of the state before START but the count of draws reaches the run (R37, R122). -/
theorem pipelineWith_eq_run {P : Params} {s : State} (x : FilterSpec) (hs : Stage.resting s.stage = true) :
    pipelineWith P x s = runWith P 10 (started x s.draws) :=
  runWith_succ (stepWith_start x hs)

theorem run_of_invalid {P : Params} {x : FilterSpec} (h : filterSpecOk P.num x.fs x.f0 x.q = false) (d : Nat) :
    runWith P 10 (started x d) = .next (rejected P x d) := by
  have hc : execWith P .chk (started x d) = .next (rejected P x d) := if_neg (Bool.eq_false_iff.mp h)
  rw [runWith_succ_op rfl stageMeaning_chk hc]
  exact runWith_resting rfl stageMeaning_err 9

/-- UGN after NRM, whether it rescales, warns or is off. -/
theorem ugnOp_normalized (P : Params) (x : FilterSpec) (d : Nat) : ugnOp P (normalized x d) = .next (rescaled P x d) := by
  obtain ⟨fs, f0, q, ug⟩ := x
  cases ug with
  | false => rfl
  | true =>
    have hu : ugnOp P (normalized ⟨fs, f0, q, true⟩ d) = .next
        { applyGain P (normalizedOf fs f0 q) (gainOf fs f0 q) (normalized ⟨fs, f0, q, true⟩ d) with
          stage := Stage.qb0 } := rfl
    obtain ⟨hz, ha⟩ | ⟨hz, ha⟩ :=
      applyGain_cases P (normalizedOf fs f0 q) (gainOf fs f0 q) (normalized ⟨fs, f0, q, true⟩ d)
    · rw [hu, ha, rescaled, finalCoefs_of_isZero hz, hz]
      rfl
    · rw [hu, ha, rescaled, finalCoefs_of_not_isZero hz, hz]
      rfl

theorem run_to_qb0 {P : Params} {x : FilterSpec} (h : filterSpecOk P.num x.fs x.f0 x.q = true) (d k : Nat) :
    runWith P (k + 4) (started x d) = runWith P k (rescaled P x d) := by
  have hc : execWith P .chk (started x d) = .next { started x d with stage := Stage.drv } := if_pos h
  have hd : execWith P .drv { started x d with stage := Stage.drv } = .next (writeAnalog x.fs x.f0 x.q (started x d)) :=
    if_pos h
  have hn : execWith P .nrm (writeAnalog x.fs x.f0 x.q (started x d)) = .next (normalized x d) := rfl
  calc runWith P (k + 4) (started x d)
      = runWith P (k + 3) { started x d with stage := Stage.drv } := runWith_succ_op rfl stageMeaning_chk hc
    _ = runWith P (k + 2) (writeAnalog x.fs x.f0 x.q (started x d)) := runWith_succ_op rfl stageMeaning_drv hd
    _ = runWith P (k + 1) (normalized x d) := runWith_succ_op rfl stageMeaning_nrm hn
    _ = runWith P k (rescaled P x d) := runWith_succ_op rfl stageMeaning_ugn (ugnOp_normalized P x d)

/-- The five quantize operations in a row. -/
theorem writeResult_five (n : PerCoef NumTerm) (r : PerCoef QuantResult) (s : State) :
    writeResult .a2 n.a2 r.a2 Stage.emit (writeResult .a1 n.a1 r.a1 Stage.qa2 (writeResult .b2 n.b2 r.b2 Stage.qa1
      (writeResult .b1 n.b1 r.b1 Stage.qb2 (writeResult .b0 n.b0 r.b0 Stage.qb1 s)))) =
      { s with
        q14 := (wordsOf r).map some
        qe := (errorsOf n r).map some
        status := { s.status with sat := satOf r }
        stage := Stage.emit
        draws := r.a2.draws } := by
  simp only [writeResult, writeQuantized, writeSat]
  rfl

theorem runWith_quantizeOp {P : Params} {i : Instr} {c : Coef} {next : StageCode}
    (hi : execWith P i = quantizeOp P c next) {k : Nat} {s : State} {n : PerCoef NumTerm} {r : QuantResult}
    (ht : s.turns = []) (hm : stageMeaning s.stage = .op i) (hn : s.n = n.map some)
    (hr : quantizeAfter P s.draws (n.get c) = r) :
    runWith P (k + 1) s = runWith P k (writeResult c (n.get c) r next s) :=
  runWith_succ_op ht hm (hi ▸ quantizeOp_eq next (by rw [hn, PerCoef.get_map]) hr)

theorem run_from_qb0 {P : Params} {s : State} {n : PerCoef NumTerm} (ht : s.turns = []) (hs : s.stage = Stage.qb0)
    (hn : s.n = n.map some) : runWith P 6 s = .next (finished P n (quantizeFive P s.draws n) s) := by
  generalize hr : quantizeFive P s.draws n = r
  have h0 : quantizeAfter P s.draws n.b0 = r.b0 := by rw [← hr]; rfl
  have h1 : quantizeAfter P r.b0.draws n.b1 = r.b1 := by rw [← hr]; rfl
  have h2 : quantizeAfter P r.b1.draws n.b2 = r.b2 := by rw [← hr]; rfl
  have h3 : quantizeAfter P r.b2.draws n.a1 = r.a1 := by rw [← hr]; rfl
  have h4 : quantizeAfter P r.a1.draws n.a2 = r.a2 := by rw [← hr]; rfl
  refine Eq.trans (runWith_quantizeOp (i := .qb0) rfl ht (by simp [hs]) hn h0) ?_
  refine Eq.trans (runWith_quantizeOp (i := .qb1) rfl (by simp [ht]) (by simp) (by simp [hn]) h1) ?_
  refine Eq.trans (runWith_quantizeOp (i := .qb2) rfl (by simp [ht]) (by simp) (by simp [hn]) h2) ?_
  refine Eq.trans (runWith_quantizeOp (i := .qa1) rfl (by simp [ht]) (by simp) (by simp [hn]) h3) ?_
  refine Eq.trans (runWith_quantizeOp (i := .qa2) rfl (by simp [ht]) (by simp) (by simp [hn]) h4) ?_
  refine Eq.trans (congrArg (runWith P 1) (writeResult_five n r s)) ?_
  exact runWith_succ_op (i := .emit) ht stageMeaning_emit (emitOp_eq hn rfl rfl)

/-- PIPELINE, the end of every run from a resting state (R121, R122). -/
theorem pipelineWith_eq (P : Params) (x : FilterSpec) {s : State} (hs : Stage.resting s.stage = true) :
    pipelineWith P x s = .next (ended P x s.draws) := by
  rw [pipelineWith_eq_run x hs]
  cases h : filterSpecOk P.num x.fs x.f0 x.q with
  | false => rw [run_of_invalid h, ended_of_invalid h]
  | true => rw [run_to_qb0 h s.draws 6, run_from_qb0 rfl rfl rfl, ended_of_valid h, designed]; rfl

/-- A run that ends in DONE is one on a valid FilterSpec. -/
theorem pipelineWith_done {P : Params} {x : FilterSpec} {s u : State} (hs : Stage.resting s.stage = true)
    (hr : pipelineWith P x s = .next u) (hd : u.stage = Stage.done) :
    filterSpecOk P.num x.fs x.f0 x.q = true ∧ u = designed P x s.draws := by
  rw [pipelineWith_eq P x hs] at hr
  cases hr
  cases h : filterSpecOk P.num x.fs x.f0 x.q with
  | false =>
    rw [ended_of_invalid h] at hd
    cases hd
  | true => exact ⟨rfl, ended_of_valid h _⟩

theorem designs_iff {P : Params} {x : FilterSpec} {t : State} :
    Designs P x t ↔ filterSpecOk P.num x.fs x.f0 x.q = true ∧ t = designed P x State.reset.draws := by
  have hs : Stage.resting State.reset.stage = true := rfl
  constructor
  · rintro ⟨hr, hd⟩
    exact pipelineWith_done hs hr hd
  · rintro ⟨h, rfl⟩
    exact ⟨by rw [pipelineWith_eq P x hs, ended_of_valid h], rfl⟩

/-! ### What a run leaves in the registers -/

section
variable (P : Params) (x : FilterSpec) (d : Nat)

theorem designed_n : (designed P x d).n = (finalCoefs P.num x.fs x.f0 x.q x.ug).map some := rfl

variable {P x}

theorem coefs_of_designed {n : PerCoef NumTerm} (h : (designed P x d).n = n.map some) :
    n = finalCoefs P.num x.fs x.f0 x.q x.ug :=
  PerCoef.map_some_inj (h.symm.trans (designed_n P x d))

theorem designed_b1_word (h : P.num.isZero (finalCoefs P.num x.fs x.f0 x.q x.ug).b1 = true) :
    (designed P x d).q14.b1 = some 0#16 ∧ (designed P x d).status.sat.b1 = false := by
  have hr : ∀ d, quantizeAfter P d (finalCoefs P.num x.fs x.f0 x.q x.ug).b1 = ⟨0, false, d⟩ :=
    quantizeAfter_of_isZero h
  exact ⟨congrArg (fun y : QuantResult => some (enc16 y.q)) (hr _), congrArg QuantResult.sat (hr _)⟩

end

/-- Where every coefficient is finite the count of draws before a run reaches none of its results. -/
theorem ended_of_finite {P : Params} {x : FilterSpec}
    (h : ∀ i, P.num.finite ((finalCoefs P.num x.fs x.f0 x.q x.ug).get i) = true) (d d' : Nat) :
    ended P x d' = { ended P x d with draws := d' } := by
  cases hv : filterSpecOk P.num x.fs x.f0 x.q with
  | false =>
    rw [ended_of_invalid hv, ended_of_invalid hv]
    rfl
  | true =>
    rw [ended_of_valid hv, ended_of_valid hv, designed, designed, quantizeFive_of_finite h, quantizeFive_of_finite h]
    rfl

/-- Settles O46: by the equation of PIPELINE, in which of the state before START only the count of draws stands. -/
theorem pipelineIsAPureFunction : Obligations.PipelineIsAPureFunction := by
  refine ⟨fun P x s s' hs hs' hd => ?_, fun P x s s' u u' hs hs' hu hu' hfin => ?_⟩
  · rw [pipelineWith_eq P x hs, pipelineWith_eq P x hs', hd]
  · rw [pipelineWith_eq P x hs] at hu
    rw [pipelineWith_eq P x hs', ended_of_finite hfin s.draws] at hu'
    cases hu
    cases hu'
    exact ⟨rfl, rfl, rfl, rfl⟩

/-- Settles O58: a run from any resting state leaves B1, N and the zero's word as the run from reset does. -/
theorem b1IsZeroByNumB1 : Obligations.B1IsZeroByNumB1 := by
  intro P x s u hnum hs hr hdone
  obtain ⟨hv, rfl⟩ := pipelineWith_done hs hr hdone
  obtain ⟨hb, hn, -⟩ := hnum x _ _ (finalCoefs P.num x.fs x.f0 x.q x.ug).b1 (designs_iff.mpr ⟨hv, rfl⟩) rfl rfl
  obtain ⟨hw, hsat⟩ := designed_b1_word s.draws hn
  exact ⟨_, _, rfl, rfl, hb, hn, hw, hsat⟩

theorem lt_zero_of_isPositive {M : NUM} {x : NumTerm} (h : isPositive M x = true) : M.lt (NumTerm.ofInt 0) x = true :=
  (Bool.and_eq_true_iff.mp h).2

/-- Settles O59: either property has a run on the reference FilterSpec that ends in DONE. -/
theorem namedPropertiesNeedTheReferenceSpecValid : Obligations.NamedPropertiesNeedTheReferenceSpecValid := by
  intro P h
  have hrun : ∃ t, Designs P referenceSpec t := h.elim And.left And.left
  obtain ⟨t, ht⟩ := hrun
  obtain ⟨hv, -⟩ := designs_iff.mp ht
  obtain ⟨⟨⟨hfs, -⟩, hnyq⟩, -⟩ : ((okFs P.num _ = true ∧ okF0 P.num _ = true) ∧ okNyq P.num _ _ = true) ∧ _ := by
    simpa only [filterSpecOk, Bool.and_eq_true] using hv
  exact ⟨hv, lt_zero_of_isPositive hfs, (Bool.and_eq_true_iff.mp hnyq).2⟩

end Sys2Proof.Machine
end

section
/-! PROOFS. EXACT: the values of the normalized coefficients, unit gain at the center frequency (41_normalize.md R83), the
stability check (R85), and with them the named properties of 00_scope.md R12. -/

namespace Sys2Proof.Machine.Exact

/-! ### Where a valid FilterSpec lies (R73) -/

section
variable {port : Nat → ℝ} {fs f0 q : NumTerm}

theorem val_w0Formula (h : val port fs ≠ 0) :
    val port (w0Formula fs f0) = 2 * Real.pi * val port f0 / val port fs := by
  simp [w0Formula, val, h]

theorem val_alphaFormula (w0 : NumTerm) (h : val port q ≠ 0) :
    val port (alphaFormula w0 q) = Real.sin (val port w0) / (2 * val port q) := by
  simp [alphaFormula, val, h]

variable (hv : filterSpecOk (num port) fs f0 q = true)
include hv

/-- The center frequency lies strictly between 0 and π. -/
theorem w0_mem : 0 < val port (w0Formula fs f0) ∧ val port (w0Formula fs f0) < Real.pi := by
  obtain ⟨hfs, hf0, hnyq, -⟩ := (filterSpecOk_exact port fs f0 q).mp hv
  rw [val_w0Formula hfs.ne']
  refine ⟨by positivity, ?_⟩
  rw [div_lt_iff₀ hfs]
  have := mul_lt_mul_of_pos_left hnyq Real.pi_pos
  linarith

theorem sin_w0_pos : 0 < Real.sin (val port (w0Formula fs f0)) :=
  Real.sin_pos_of_mem_Ioo (w0_mem hv)

theorem alpha_pos : 0 < val port (alphaFormula (w0Formula fs f0) q) := by
  obtain ⟨-, -, -, hq⟩ := (filterSpecOk_exact port fs f0 q).mp hv
  have := sin_w0_pos hv
  rw [val_alphaFormula _ hq.ne']
  positivity

end

/-! ### The normalized coefficients (R84) -/

/-- The values of N after NRM, at the center frequency `w` and for ALPHA `al`. -/
noncomputable def closedForm (w al : ℝ) : PerCoef ℝ :=
  ⟨al / (1 + al), 0, -al / (1 + al), -2 * Real.cos w / (1 + al), (1 - al) / (1 + al)⟩

theorem val_normalizedOf {port : Nat → ℝ} {fs f0 q : NumTerm} (hv : filterSpecOk (num port) fs f0 q = true) (i : Coef) :
    val port ((normalizedOf fs f0 q).get i) =
      (closedForm (val port (w0Formula fs f0)) (val port (alphaFormula (w0Formula fs f0) q))).get i := by
  have hal := alpha_pos hv
  have ha : 1 + val port (alphaFormula (w0Formula fs f0) q) ≠ 0 := by linarith
  cases i <;> simp [normalizedOf, closedForm, PerCoef.get, val, ha]

/-! ### Unit gain (R83) -/

/-- At the center frequency the numerator of H is its denominator, the real part and the imaginary part. -/
theorem taps_eq {w al : ℝ} (hal : 1 + al ≠ 0) :
    tapsRe (closedForm w al).b0 (closedForm w al).b1 (closedForm w al).b2 w
        = tapsRe 1 (closedForm w al).a1 (closedForm w al).a2 w ∧
    tapsIm (closedForm w al).b1 (closedForm w al).b2 w = tapsIm (closedForm w al).a1 (closedForm w al).a2 w := by
  simp only [closedForm, tapsRe, tapsIm, Real.cos_two_mul, Real.sin_two_mul]
  constructor <;> field_simp <;> ring

/-- That numerator's real part is not zero: it is 2·b0·sin² w. -/
theorem tapsRe_pos {w al : ℝ} (hw : 0 < Real.sin w) (hal : 0 < al) :
    0 < tapsRe (closedForm w al).b0 (closedForm w al).b1 (closedForm w al).b2 w := by
  have h : tapsRe (closedForm w al).b0 (closedForm w al).b1 (closedForm w al).b2 w
      = 2 * (al / (1 + al)) * Real.sin w ^ 2 := by
    simp only [closedForm, tapsRe, Real.cos_two_mul, Real.cos_sq']
    ring
  rw [h]
  positivity

theorem gain_closedForm {w al : ℝ} (hw : 0 < Real.sin w) (hal : 0 < al) :
    gain (closedForm w al).b0 (closedForm w al).b1 (closedForm w al).b2 (closedForm w al).a1 (closedForm w al).a2 w
      = 1 := by
  obtain ⟨hre, him⟩ := taps_eq (w := w) (al := al) (by linarith)
  have hpos := tapsRe_pos hw hal
  rw [gain, hre, him]
  rw [hre] at hpos
  rw [if_neg fun h => hpos.ne' h.1, div_self (by positivity), Real.sqrt_one]

section
variable {port : Nat → ℝ} {fs f0 q : NumTerm} (hv : filterSpecOk (num port) fs f0 q = true)
include hv

/-- Coefficients worth the closed forms have gain 1 at the center frequency. -/
theorem gain_eq_one {n : PerCoef NumTerm}
    (hn : ∀ i, val port (n.get i) =
      (closedForm (val port (w0Formula fs f0)) (val port (alphaFormula (w0Formula fs f0) q))).get i) :
    gain (val port n.b0) (val port n.b1) (val port n.b2) (val port n.a1) (val port n.a2) (val port (w0Formula fs f0))
      = 1 := by
  rw [← gain_closedForm (sin_w0_pos hv) (alpha_pos hv)]
  congr 1
  · exact hn .b0
  · exact hn .b1
  · exact hn .b2
  · exact hn .a1
  · exact hn .a2

theorem val_gainOf : val port (gainOf fs f0 q) = 1 := gain_eq_one hv (val_normalizedOf hv)

/-- UGN changes no coefficient's value: it divides by 1, or is off. -/
theorem val_finalCoefs (ug : Bool) (i : Coef) :
    val port ((finalCoefs (num port) fs f0 q ug).get i) =
      (closedForm (val port (w0Formula fs f0)) (val port (alphaFormula (w0Formula fs f0) q))).get i := by
  rw [← val_normalizedOf hv]
  have hg := val_gainOf hv
  cases ug with
  | false => rfl
  | true =>
    have hz : (num port).isZero (gainOf fs f0 q) = false := Bool.eq_false_iff.mpr fun h => by
      rw [num_isZero, hg] at h
      exact one_ne_zero h
    rw [finalCoefs_of_not_isZero hz]
    cases i <;> simp [PerCoef.get, val, hg]

end

/-! ### Stability (R85) -/

/-- The triangle |a1| - 1 < a2 < 1 of the stable second-order filters lies inside the check of R85. -/
theorem stabilityCheck_of_triangle {a1 a2 : ℝ} (h1 : |a1| < 1 + a2) (h2 : |a2| < 1) : StabilityCheck a1 a2 := by
  obtain ⟨-, hlt⟩ := abs_lt.mp h2
  refine ⟨h2, fun _ => hlt, fun hd => ?_⟩
  have hs : Real.sqrt (a1 ^ 2 - 4 * a2) < 2 - |a1| := by
    rw [Real.sqrt_lt' (by linarith), sub_sq, sq_abs]
    linarith
  have h0 := Real.sqrt_nonneg (a1 ^ 2 - 4 * a2)
  have hle := le_abs_self a1
  have hge := neg_abs_le a1
  constructor <;> rw [abs_lt] <;> constructor <;> linarith

theorem stabilityCheck_closedForm {w al : ℝ} (hw : 0 < Real.sin w) (hal : 0 < al) :
    StabilityCheck (closedForm w al).a1 (closedForm w al).a2 := by
  have ha : 0 < 1 + al := by linarith
  have hc : |Real.cos w| < 1 := by
    rw [← sq_lt_one_iff_abs_lt_one, Real.cos_sq']
    have : 0 < Real.sin w ^ 2 := by positivity
    linarith
  apply stabilityCheck_of_triangle
  · have h2 : 1 + (closedForm w al).a2 = 2 / (1 + al) := by
      simp only [closedForm]
      field_simp
      ring
    rw [h2]
    simp only [closedForm]
    rw [abs_div, abs_mul, abs_of_pos ha, abs_neg, abs_two]
    gcongr
    linarith
  · simp only [closedForm]
    rw [abs_lt, lt_div_iff₀ ha, div_lt_iff₀ ha]
    constructor <;> linarith

theorem stabilityCheck_finalCoefs {port : Nat → ℝ} {fs f0 q : NumTerm} (hv : filterSpecOk (num port) fs f0 q = true)
    (ug : Bool) : StabilityCheck (val port (finalCoefs (num port) fs f0 q ug).a1)
      (val port (finalCoefs (num port) fs f0 q ug).a2) := by
  have h1 : val port (finalCoefs (num port) fs f0 q ug).a1 = _ := val_finalCoefs hv ug .a1
  have h2 : val port (finalCoefs (num port) fs f0 q ug).a2 = _ := val_finalCoefs hv ug .a2
  rw [h1, h2]
  exact stabilityCheck_closedForm (sin_w0_pos hv) (alpha_pos hv)

/-! ### The named properties (R12) -/

theorem filterSpecOk_referenceSpec (port : Nat → ℝ) :
    filterSpecOk (num port) referenceSpec.fs referenceSpec.f0 referenceSpec.q = true := by
  rw [filterSpecOk_exact]
  simp only [referenceSpec, val_ofInt]
  norm_num

section
variable (port : Nat → ℝ) (t : RoundTie) (free : Nat → Word)

@[simp] theorem params_num : (params port t free).num = num port := rfl

theorem designs_reference : ∃ u, Designs (params port t free) referenceSpec u :=
  ⟨_, designs_iff.mpr ⟨filterSpecOk_referenceSpec port, rfl⟩⟩

theorem numGain : NumGain (params port t free) := by
  refine ⟨designs_reference port t free, fun u n w hu hn hw => ?_⟩
  obtain ⟨hv, rfl⟩ := designs_iff.mp hu
  cases hw
  obtain rfl := coefs_of_designed _ hn
  have hg := gain_eq_one hv (val_finalCoefs hv referenceSpec.ug)
  refine ⟨fun _ => rfl, rfl, ?_⟩
  rw [params_num, num_val, hg, sub_self, abs_zero]
  positivity

theorem numA1 : NumA1 (params port t free) := by
  refine ⟨designs_reference port t free, fun u a hu ha => ?_⟩
  obtain ⟨-, rfl⟩ := designs_iff.mp hu
  cases ha
  refine ⟨rfl, ?_⟩
  have h : val port (w0Formula referenceSpec.fs referenceSpec.f0) = 2 * Real.pi * 30000 / 1000000 := by
    rw [val_w0Formula (by simp [referenceSpec])]
    simp [referenceSpec]
  have ha : val port (.neg (.mul (NumTerm.ofInt 2) (.cos (w0Formula referenceSpec.fs referenceSpec.f0)))) =
      -2 * Real.cos (2 * Real.pi * 30000 / 1000000) := by
    simp [val, h]
  rw [params_num, num_val, ha, sub_self, abs_zero]
  positivity

theorem numStable : NumStable (params port t free) := by
  intro x u n hu hn
  obtain ⟨hv, rfl⟩ := designs_iff.mp hu
  obtain rfl := coefs_of_designed _ hn
  exact ⟨rfl, rfl, stabilityCheck_finalCoefs hv x.ug⟩

theorem numB1 : NumB1 (params port t free) := by
  intro x u b n hu hb hn
  obtain ⟨hv, rfl⟩ := designs_iff.mp hu
  cases hb
  cases hn
  have hz : (num port).isZero (finalCoefs (num port) x.fs x.f0 x.q x.ug).b1 = true :=
    (num_isZero port _).mpr (val_finalCoefs hv x.ug .b1)
  exact ⟨(num_isZero port _).mpr (by simp), hz, (designed_b1_word _ hz).1⟩

end

end Sys2Proof.Machine.Exact

namespace Sys2Proof.Machine

/-- Settles O54: unit gain and the closed forms of EXACT, read off the end of a run. -/
theorem exactIsAdmitted : Obligations.ExactIsAdmitted := fun port t free =>
  ⟨Exact.designs_reference port t free, Exact.numGain port t free, Exact.numA1 port t free, Exact.numStable port t free,
    Exact.numB1 port t free⟩

end Sys2Proof.Machine
end

section
/-! PROOFS. The statements of 10_state.md: what each operation leaves alone, what a stage operation does to the shape of
the state and to the values of its registers, and from these the invariant. -/

namespace Sys2Proof.Machine

/-! ### What each operation leaves alone (R34) -/

/-- Settles O21: CHK writes STAGE alone, or takes the error entry. -/
theorem chkFrame : Obligations.ChkFrame := by
  intro s t h
  obtain ⟨_, _, _, -, -, -, ⟨-, rfl⟩ | ⟨-, rfl⟩⟩ := chkOp_next h
  · simp [SameLatches, SameAnalog, SameOutside]
  · simp [SameLatches, SameAnalog, SameOutside]

/-- Settles O22: the writes of DRV are `writeAnalog`, those of NRM `writeNormalized`. -/
theorem drvAndNrmFrame : Obligations.DrvAndNrmFrame := by
  constructor
  · intro s t h
    obtain ⟨_, _, _, -, -, -, -, rfl⟩ := drvOp_next h
    simp [SameLatches, SameOutside]
  · intro s t h
    obtain ⟨_, _, _, _, _, _, -, -, -, -, -, -, rfl⟩ := nrmOp_next h
    simp [SameLatches, SameAnalog, SameOutside]

/-- Settles O23: UG = 0 writes STAGE alone; otherwise DEGEN is raised, or the numerator alone is rescaled. -/
theorem ugnFrame : Obligations.UgnFrame := by
  intro s t h
  obtain ⟨-, rfl⟩ | ⟨-, w0, n, -, -, rfl⟩ := ugnOp_next h
  · simp [SameLatches, SameAnalog, SameOutside]
  · obtain ⟨-, ha⟩ | ⟨-, ha⟩ := applyGain_cases Config.hw n (gainFormula n w0) s
    · simp [ha, SameLatches, SameAnalog, SameOutside]
    · simp [ha, SameLatches, SameAnalog, SameOutside, PerCoef.get]

/-- The five quantize operations are one, at the coefficient and the successor of each. -/
theorem execWith_of_isQuantize {i : Instr} {c : Coef} {next : StageCode} (hi : IsQuantize i c next) (P : Params) :
    execWith P i = quantizeOp P c next := by
  obtain ⟨rfl, rfl, rfl⟩ | ⟨rfl, rfl, rfl⟩ | ⟨rfl, rfl, rfl⟩ | ⟨rfl, rfl, rfl⟩ | ⟨rfl, rfl, rfl⟩ := hi
  all_goals rfl

/-- Settles O24: the writes are `writeQuantized` at the coefficient, of a value that is not finite with a draw counted. -/
theorem quantizeFrame : Obligations.QuantizeFrame := by
  intro i c next hi s t h
  rw [← execWith_hw, execWith_of_isQuantize hi] at h
  obtain ⟨x, -, ⟨-, rfl⟩ | ⟨-, rfl⟩⟩ := quantizeOp_next h
  · simp +contextual [SameLatches, SameAnalog, SameOutside]
  · simp +contextual [SameLatches, SameAnalog, SameOutside]

/-- Settles O25: the writes of EMIT are `endRun`. -/
theorem emitFrame : Obligations.EmitFrame := by
  intro s t h
  obtain ⟨_, _, _, -, -, -, rfl⟩ := emitOp_next h
  simp [SameLatches, SameAnalog, SameOutside]

/-- Settles O17: `resetRegisters` is the table of R36. -/
theorem resetClearsEveryRegister : Obligations.ResetClearsEveryRegister := by
  intro s
  have hst : statusWord Status.zero = 0#16 := by decide
  exact ⟨resetRegisters s, rfl, by simp [Stage.idle, hst]⟩

/-! ### The stages of a run (R115) -/

/-- The codes a stage operation can leave in STAGE. -/
def successors : Instr → List StageCode
  | .chk => [Stage.drv, Stage.err]
  | .drv => [Stage.nrm]
  | .nrm => [Stage.ugn]
  | .ugn => [Stage.qb0]
  | .qb0 => [Stage.qb1]
  | .qb1 => [Stage.qb2]
  | .qb2 => [Stage.qa1]
  | .qa1 => [Stage.qa2]
  | .qa2 => [Stage.emit]
  | .emit => [Stage.done]
  | .reset | .start => []

/-- A run goes from code `a` to code `b`: one operation further, or by the error entry, which CHK alone takes. -/
def Advances (a b : StageCode) : Prop :=
  Stage.resting a = false ∧ Stage.reserved b = false ∧ b ≠ Stage.idle ∧
    (stageRank b = stageRank a + 1 ∨ stageRank a = 1 ∧ stageRank b = 1)

theorem advances_successors {i : Instr} (hi : i.format = .stage) :
    ∀ c ∈ successors i, Advances ((encodeWord i).setWidth 4) c := by
  unfold Advances
  cases i with
  | reset => cases hi
  | start => cases hi
  | _ => decide

theorem resting_eq_false {c : StageCode} : Stage.resting c = false ↔ c ≠ Stage.idle ∧ c ≠ Stage.done ∧ c ≠ Stage.err := by
  simp [Stage.resting, and_assoc]

@[simp] theorem quantizedRank_inj {i j : Coef} : quantizedRank i = quantizedRank j ↔ i = j := by
  cases i <;> cases j <;> decide

theorem quantizedRank_mem (i : Coef) : 6 ≤ quantizedRank i ∧ quantizedRank i ≤ 10 := by
  cases i <;> decide

/-- What is not the rank of a quantize operation. -/
@[simp] theorem quantizedRank_ne {n : Nat} (h : n < 6 ∨ 10 < n) (i : Coef) : quantizedRank i ≠ n := by
  have := quantizedRank_mem i
  omega

@[simp] theorem ne_quantizedRank {n : Nat} (h : n < 6 ∨ 10 < n) (i : Coef) : n ≠ quantizedRank i :=
  (quantizedRank_ne h i).symm

@[simp] theorem lt_quantizedRank {n : Nat} (h : n < 6) (i : Coef) : n < quantizedRank i :=
  h.trans_le (quantizedRank_mem i).1

/-! ### What a stage operation does to the shape of the state -/

/-- A run with this UG ever writes the register: any but G, which UG = 0 leaves unwritten (R37, R82). -/
def everWritten (ug : Bool) (r : Reg) : Bool := r != .g || ug

/-- An operation writes the registers of the rank it reaches, and no others (R34). -/
def WritesItsRank (s t : State) : Prop :=
  ∀ r, t.written r = (s.written r || everWritten s.ug r && decide (writtenRank r = stageRank t.stage))

/-- What an operation does to the flags, ERRCAUSE and TEXT, by the code it leaves in STAGE (R29, R30, R34). -/
structure FlagEffect (s t : State) : Prop where
  text : t.stage ≠ Stage.done → t.text = s.text
  busy : t.status.busy = (s.status.busy && !Stage.resting t.stage)
  done : t.status.done = (s.status.done || decide (t.stage = Stage.done))
  err : t.status.err = (s.status.err || decide (t.stage = Stage.err))
  cause : if t.stage = Stage.err then t.errcause ≠ 0#4 else t.errcause = s.errcause
  degen : t.status.degen = s.status.degen ∨ t.status.degen = true ∧ s.ug = true ∧ stageRank t.stage = 5
  sat : ∀ i, quantizedRank i ≠ stageRank t.stage → t.status.sat.get i = s.status.sat.get i

/-- An operation that leaves a code of the run in STAGE need set no flag. -/
theorem FlagEffect.of_running {s t : State} (hr : Stage.resting t.stage = false) (htext : t.text = s.text)
    (hcause : t.errcause = s.errcause) (hbusy : t.status.busy = s.status.busy) (hdone : t.status.done = s.status.done)
    (herr : t.status.err = s.status.err)
    (hdegen : t.status.degen = s.status.degen ∨ t.status.degen = true ∧ s.ug = true ∧ stageRank t.stage = 5)
    (hsat : ∀ i, quantizedRank i ≠ stageRank t.stage → t.status.sat.get i = s.status.sat.get i) : FlagEffect s t := by
  obtain ⟨-, hd, he⟩ := resting_eq_false.mp hr
  exact ⟨fun _ => htext, by simp [hbusy, hr], by simp [hdone, hd], by simp [herr, he], by simp [hcause, he], hdegen, hsat⟩

/-- In a code of the run nothing but STAGE need change. -/
theorem FlagEffect.of_eq {s t : State} (hr : Stage.resting t.stage = false) (htext : t.text = s.text)
    (hcause : t.errcause = s.errcause) (hstatus : t.status = s.status) : FlagEffect s t := by
  refine .of_running hr htext hcause ?_ ?_ ?_ (.inl ?_) fun _ _ => ?_
  all_goals rw [hstatus]

/-- What a stage operation does to the latches and to all that `Shape` speaks of. -/
structure StageEffect (i : Instr) (s t : State) : Prop where
  latches : SameLatches s t
  stage : t.stage ∈ successors i
  written : WritesItsRank s t
  flags : FlagEffect s t

section
variable {P : Params} {s t : State}

theorem chkOp_effect (h : chkOp P s = .next t) : StageEffect .chk s t := by
  obtain ⟨fs, f0, q, e1, e2, e3, ⟨-, rfl⟩ | ⟨hv, rfl⟩⟩ := chkOp_next h
  · have hr : stageRank Stage.drv = 2 := rfl
    refine ⟨⟨rfl, rfl, rfl, rfl⟩, by simp [successors], fun r => ?_, .of_eq rfl rfl rfl rfl⟩
    cases r <;> simp [State.written, writtenRank, hr]
  · have hr : stageRank Stage.err = 1 := rfl
    have hc : causeOf P.num fs f0 q ≠ 0#4 := by rw [Ne, causeOf_eq_zero, hv]; decide
    refine ⟨⟨rfl, rfl, rfl, rfl⟩, by simp [successors], fun r => ?_, ?_⟩
    · cases r <;> simp [State.written, writtenRank, hr, e1, e2, e3]
    · have hd : Stage.err ≠ Stage.done := by decide
      constructor <;> simp [hc, hd, Stage.resting]

theorem drvOp_effect (h : drvOp P s = .next t) : StageEffect .drv s t := by
  obtain ⟨fs, f0, q, -, -, -, -, rfl⟩ := drvOp_next h
  have hr : stageRank Stage.nrm = 3 := rfl
  refine ⟨⟨rfl, rfl, rfl, rfl⟩, by simp [successors], fun r => ?_, .of_eq rfl rfl rfl rfl⟩
  cases r <;> simp [State.written, everWritten, writtenRank, hr]

theorem nrmOp_effect (h : nrmOp s = .next t) : StageEffect .nrm s t := by
  obtain ⟨b0, b1, b2, a0, a1, a2, -, -, -, -, -, -, rfl⟩ := nrmOp_next h
  have hr : stageRank Stage.ugn = 4 := rfl
  refine ⟨⟨rfl, rfl, rfl, rfl⟩, by simp [successors], fun r => ?_, .of_eq rfl rfl rfl rfl⟩
  cases r with
  | n i => cases i <;> simp [State.written, PerCoef.get, everWritten, writtenRank, hr]
  | _ => simp [State.written, everWritten, writtenRank, hr]

theorem ugnOp_effect (h : ugnOp P s = .next t) : StageEffect .ugn s t := by
  have hr : stageRank Stage.qb0 = 5 := rfl
  obtain ⟨hu, rfl⟩ | ⟨hu, w0, n, -, hn, rfl⟩ := ugnOp_next h
  · refine ⟨⟨rfl, rfl, rfl, rfl⟩, by simp [successors], fun r => ?_, .of_eq rfl rfl rfl rfl⟩
    cases r <;> simp [State.written, everWritten, writtenRank, hr, hu]
  · obtain ⟨-, ha⟩ | ⟨-, ha⟩ := applyGain_cases P n (gainFormula n w0) s
    · rw [ha]
      refine ⟨⟨rfl, rfl, rfl, rfl⟩, by simp [successors], fun r => ?_,
        .of_running rfl rfl rfl rfl rfl rfl (.inr ⟨rfl, hu, rfl⟩) fun _ _ => rfl⟩
      cases r <;> simp [State.written, everWritten, writtenRank, hr, hu]
    · rw [ha]
      refine ⟨⟨rfl, rfl, rfl, rfl⟩, by simp [successors], fun r => ?_, .of_eq rfl rfl rfl rfl⟩
      cases r with
      | n i => cases i <;> simp [State.written, PerCoef.get, PerCoef.map, everWritten, writtenRank, hr, hn]
      | _ => simp [State.written, everWritten, writtenRank, hr, hu]

/-- The codes a quantize operation is run in and leaves in STAGE. -/
theorem stages_of_isQuantize {i : Instr} {c : Coef} {next : StageCode} (hi : IsQuantize i c next) :
    next ∈ successors i ∧ Stage.resting next = false ∧ stageRank next = quantizedRank c := by
  obtain ⟨rfl, rfl, rfl⟩ | ⟨rfl, rfl, rfl⟩ | ⟨rfl, rfl, rfl⟩ | ⟨rfl, rfl, rfl⟩ | ⟨rfl, rfl, rfl⟩ := hi
  all_goals decide

/-- The writes of a quantize operation, whatever the integer and the flag. -/
theorem writeQuantized_effect {i : Instr} {c : Coef} {next : StageCode} (hi : IsQuantize i c next) (x : NumTerm) (q : Int)
    (b : Bool) : StageEffect i s (writeQuantized c x q b next s) := by
  obtain ⟨hmem, hrest, hr⟩ := stages_of_isQuantize hi
  refine ⟨⟨rfl, rfl, rfl, rfl⟩, hmem, fun r => ?_, .of_running hrest rfl rfl rfl rfl rfl (.inl rfl) fun j hj => ?_⟩
  · cases r with
    | q14 j => by_cases hj : j = c <;> simp [State.written, everWritten, writtenRank, hr, hj]
    | qe j => by_cases hj : j = c <;> simp [State.written, everWritten, writtenRank, hr, hj]
    | _ => simp [State.written, everWritten, writtenRank, hr]
  · have hne : j ≠ c := by simpa [hr] using hj
    simp [hne]

theorem quantizeOp_effect {i : Instr} {c : Coef} {next : StageCode} (hi : IsQuantize i c next)
    (h : quantizeOp P c next s = .next t) : StageEffect i s t := by
  obtain ⟨x, -, ⟨-, rfl⟩ | ⟨-, rfl⟩⟩ := quantizeOp_next h
  · exact writeQuantized_effect hi _ _ _
  · obtain ⟨hl, hs, hw, hf⟩ := writeQuantized_effect (s := s) hi x (drawnWord P s) true
    exact ⟨hl, hs, hw, { hf with }⟩

theorem emitOp_effect (h : emitOp P s = .next t) : StageEffect .emit s t := by
  obtain ⟨n, q, e, -, -, -, rfl⟩ := emitOp_next h
  have hr : stageRank Stage.done = 11 := rfl
  refine ⟨⟨rfl, rfl, rfl, rfl⟩, by simp [successors], fun r => ?_, ?_⟩
  · cases r <;> simp [State.written, everWritten, writtenRank, hr]
  · have he : Stage.done ≠ Stage.err := by decide
    constructor <;> simp [he, Stage.resting]

theorem execWith_effect {i : Instr} (hi : i.format = .stage) (h : execWith P i s = .next t) : StageEffect i s t := by
  cases i with
  | chk => exact chkOp_effect h
  | drv => exact drvOp_effect h
  | nrm => exact nrmOp_effect h
  | ugn => exact ugnOp_effect h
  | qb0 => exact quantizeOp_effect (by simp [IsQuantize]) h
  | qb1 => exact quantizeOp_effect (by simp [IsQuantize]) h
  | qb2 => exact quantizeOp_effect (by simp [IsQuantize]) h
  | qa1 => exact quantizeOp_effect (by simp [IsQuantize]) h
  | qa2 => exact quantizeOp_effect (by simp [IsQuantize]) h
  | emit => exact emitOp_effect h
  | reset => cases hi
  | start => cases hi

end

/-! ### The shape is kept -/

theorem Shape.written_eq_everWritten {s : State} (h : Shape s) (r : Reg) :
    s.written r = (everWritten s.ug r && decide (writtenRank r ≤ stageRank s.stage)) := by
  by_cases hr : r = .g
  · rw [hr]
    exact h.g
  · rw [h.written_eq hr]
    simp [everWritten, hr]

/-- `Shape` from its clause about written registers, said of all of them at once. -/
theorem Shape.of_written {s : State}
    (hw : ∀ r, s.written r = (everWritten s.ug r && decide (writtenRank r ≤ stageRank s.stage)))
    (hdefined : Stage.reserved s.stage = false) (hug : s.stage = Stage.idle → s.ug = false)
    (htext : s.stage ≠ Stage.done → s.text = []) (hbusy : s.status.busy = !Stage.resting s.stage)
    (hdone : s.status.done = decide (s.stage = Stage.done)) (herr : s.status.err = decide (s.stage = Stage.err))
    (hcause : s.errcause = 0#4 ↔ s.status.err = false)
    (hdegen : s.status.degen = true → s.ug = true ∧ 5 ≤ stageRank s.stage)
    (hsat : ∀ i, s.status.sat.get i = true → quantizedRank i ≤ stageRank s.stage) : Shape s :=
  ⟨hdefined, hw .fs, hw .f0, hw .qf, hug, hw .w0, hw .alpha, hw .b0, hw .b1, hw .b2, hw .a0, hw .a1, hw .a2,
    fun i => hw (.n i), hw .g, fun i => hw (.q14 i), fun i => hw (.qe i), htext, hbusy, hdone, herr, hcause, hdegen, hsat⟩

/-- An operation's step through the stages keeps the shape. -/
theorem Shape.of_stageEffect {i : Instr} {s t : State} (hs : Shape s) (ha : Advances s.stage t.stage)
    (he : StageEffect i s t) : Shape t := by
  obtain ⟨hrest, hres, hidle, hrank⟩ := ha
  obtain ⟨hnidle, hndone, hnerr⟩ := resting_eq_false.mp hrest
  obtain ⟨⟨-, -, -, hug⟩, -, hw, hf⟩ := he
  have hle : stageRank s.stage ≤ stageRank t.stage := by omega
  refine .of_written (fun r => ?_) hres (fun h => absurd h hidle) (fun h => ?_) ?_ ?_ ?_ ?_ (fun h => ?_) fun i h => ?_
  · have hnow : writtenRank r ≤ stageRank t.stage ↔
        writtenRank r ≤ stageRank s.stage ∨ writtenRank r = stageRank t.stage := by omega
    rw [hw r, hs.written_eq_everWritten r, hug, ← Bool.and_or_distrib_left, ← Bool.decide_or]
    simp only [hnow]
  · rw [hf.text h, hs.text hndone]
  · rw [hf.busy, hs.busy, hrest]
    rfl
  · rw [hf.done, hs.done]
    simp [hndone]
  · rw [hf.err, hs.err]
    simp [hnerr]
  · rw [hf.err, hs.err]
    by_cases h : t.stage = Stage.err
    · have hc : t.errcause ≠ 0#4 := by simpa [h] using hf.cause
      simp [h, hc]
    · have h0 : s.errcause = 0#4 := hs.cause.mpr (by simp [hs.err, hnerr])
      have hc : t.errcause = s.errcause := by simpa [h] using hf.cause
      simp [h, hc, h0, hnerr]
  · obtain hd | ⟨-, hu, h5⟩ := hf.degen
    · obtain ⟨hu, h5⟩ := hs.degen (hd ▸ h)
      exact ⟨hug.trans hu, h5.trans hle⟩
    · exact ⟨hug.trans hu, h5.ge⟩
  · by_cases hi : quantizedRank i = stageRank t.stage
    · exact hi.le
    · exact (hs.sat i (hf.sat i hi ▸ h)).trans hle

theorem Shape.of_execWith {P : Params} {i : Instr} {s t : State} (hs : Shape s) (hi : i.format = .stage)
    (hc : (encodeWord i).setWidth 4 = s.stage) (h : execWith P i s = .next t) : Shape t := by
  have he := execWith_effect hi h
  exact hs.of_stageEffect (hc ▸ advances_successors hi t.stage he.stage) he

theorem shape_resetRegisters (s : State) : Shape (resetRegisters s) := by
  refine .of_written (fun r => ?_) rfl (fun _ => rfl) (fun _ => rfl) rfl rfl rfl (by simp [Status.zero])
    (by simp [Status.zero]) (by simp [Status.zero])
  have hr : stageRank Stage.idle = 0 := rfl
  cases r <;> simp [State.written, writtenRank, hr]

theorem shape_beginRun (s : State) : Shape (beginRun s) := by
  refine .of_written (fun r => ?_) rfl (fun h => ?_) (fun _ => rfl) rfl rfl rfl (by simp [Status.running, Status.zero])
    (by simp [Status.running, Status.zero]) (by simp [Status.running, Status.zero])
  · have hr : stageRank Stage.chk = 1 := rfl
    cases r <;> simp [State.written, everWritten, writtenRank, hr]
  · cases h

/-! ### The sequencer's turn -/

/-- The operation a code asks for is a stage operation, and the code is its word. -/
theorem stageMeaning_op {c : StageCode} {i : Instr} (h : stageMeaning c = .op i) :
    i.format = .stage ∧ (encodeWord i).setWidth 4 = c := by
  obtain ⟨j, hj, hstage, hcode⟩ | ⟨hm, -⟩ | ⟨hm, -⟩ := stageMeaning_cases c
  · cases h.symm.trans hj
    exact ⟨hstage, hcode⟩
  · cases h.symm.trans hm
  · cases h.symm.trans hm

theorem sequencerTurn_cases {run : Instr → State → Res} {s t : State} (h : sequencerTurn run s = .next t) :
    (∃ i, i.format = .stage ∧ (encodeWord i).setWidth 4 = s.stage ∧ run i s = .next t) ∨ t = s := by
  obtain ⟨i, hm, hrun⟩ | ⟨-, rfl⟩ := sequencerTurn_next h
  · obtain ⟨hi, hc⟩ := stageMeaning_op hm
    exact .inl ⟨i, hi, hc, hrun⟩
  · exact .inr rfl

theorem SequencersTurn.next {run : Instr → State → Res} {s t : State} (hq : SequencersTurn s)
    (h : turnStep run s = .next t) : ∃ rest, sequencerTurn run { s with turns := rest } = .next t := by
  obtain hnil | ⟨rest, hseq⟩ := hq
  · exact ⟨s.turns, by rwa [turnStep_of_nil hnil] at h⟩
  · exact ⟨rest, by rwa [turnStep_of_seq hseq] at h⟩

theorem format_eq_stage {i : Instr} (hr : i ≠ .reset) (hs : i ≠ .start) : i.format = .stage := by
  cases i with
  | reset => exact absurd rfl hr
  | start => exact absurd rfl hs
  | _ => rfl

/-- Settles O27: by the effect of a stage operation; in a resting state the sequencer writes nothing. -/
theorem filterSpecIsImmutable : Obligations.FilterSpecIsImmutable := by
  constructor
  · intro i s t hr hs h
    rw [← execWith_hw] at h
    exact (execWith_effect (format_eq_stage hr hs) h).latches
  · intro s t hq h
    rw [← stepWith_hw] at h
    obtain ⟨rest, h⟩ := hq.next h
    obtain ⟨i, hi, -, hrun⟩ | rfl := sequencerTurn_cases h
    · exact (execWith_effect hi hrun).latches
    · exact ⟨rfl, rfl, rfl, rfl⟩

/-! ### Sticky flags (R29) -/

/-- Every event flag set in `s` is set in `t`. -/
def FlagsKept (s t : State) : Prop :=
  (s.status.done = true → t.status.done = true) ∧ (s.status.err = true → t.status.err = true) ∧
  (s.status.degen = true → t.status.degen = true) ∧ ∀ i, s.status.sat.get i = true → t.status.sat.get i = true

/-- A quantize operation finds its own flag clear, so writing it clears none. -/
theorem Shape.flagsKept {i : Instr} {s t : State} (hs : Shape s) (ha : Advances s.stage t.stage)
    (he : StageEffect i s t) : FlagsKept s t := by
  obtain ⟨-, -, -, hrank⟩ := ha
  obtain ⟨-, -, -, hf⟩ := he
  refine ⟨fun h => by rw [hf.done, h]; rfl, fun h => by rw [hf.err, h]; rfl, fun h => ?_, fun j h => ?_⟩
  · obtain hd | ⟨hd, -⟩ := hf.degen
    · exact hd.trans h
    · exact hd
  · have hj := hs.sat j h
    have h6 := quantizedRank_mem j
    exact (hf.sat j (by omega)).trans h

theorem Shape.not_done_and_err {s : State} (hs : Shape s) : ¬(s.status.done = true ∧ s.status.err = true) := by
  rw [hs.done, hs.err]
  rintro ⟨hd, he⟩
  have hne : Stage.done ≠ Stage.err := by decide
  exact hne ((of_decide_eq_true hd).symm.trans (of_decide_eq_true he))

/-- Settles O43: a stage operation keeps the flags and the shape, in which DONE and ERR are flags of two stages. -/
theorem eventFlagsAreSticky : Obligations.EventFlagsAreSticky := by
  intro s t hs hq h
  suffices FlagsKept s t ∧ Shape t by
    obtain ⟨⟨hdone, herr, hdegen, hsat⟩, ht⟩ := this
    exact ⟨hdone, herr, hdegen, hsat, ht.not_done_and_err⟩
  rw [← stepWith_hw] at h
  obtain ⟨rest, h⟩ := hq.next h
  have hs' : Shape { s with turns := rest } := { hs with }
  obtain ⟨i, hi, hc, hrun⟩ | rfl := sequencerTurn_cases h
  · have he := execWith_effect hi hrun
    exact ⟨hs'.flagsKept (hc ▸ advances_successors hi t.stage he.stage) he, hs'.of_execWith hi hc hrun⟩
  · exact ⟨⟨id, id, id, fun _ => id⟩, hs'⟩

/-! ### The values are kept -/

/-- Before QB0 has run no word is written. -/
theorem Shape.q14_ne_some {s : State} (hs : Shape s) (hr : stageRank s.stage < 6) {i : Coef} {w : Word} :
    s.q14.get i ≠ some w := by
  intro hw
  have h6 := quantizedRank_mem i
  have hi := hs.q14 i
  rw [hw, Option.isSome_some, eq_comm, decide_eq_true_iff] at hi
  omega

theorem Shape.degen_eq_false {s : State} (hs : Shape s) (hr : stageRank s.stage < 5) : s.status.degen = false := by
  refine Bool.eq_false_iff.mpr fun h => ?_
  have h5 := (hs.degen h).2
  omega

theorem stage_ne_done {s : State} (hr : stageRank s.stage < 11) : s.stage ≠ Stage.done := by
  intro h
  rw [h] at hr
  exact absurd hr (by decide)

section
variable {P : Params} {s t : State}

/-- Before DRV has run the registers of the run are unwritten, and only the latches speak. -/
theorem Computed.of_rank_le_two (hs : Shape s) (hr : stageRank s.stage ≤ 2)
    (hvalid : ∀ fs f0 q, s.fs = some fs → s.f0 = some f0 → s.qf = some q → 2 ≤ stageRank s.stage →
      filterSpecOk P.num fs f0 q = true)
    (hinvalid : ∀ fs f0 q, s.fs = some fs → s.f0 = some f0 → s.qf = some q → s.stage = Stage.err →
      filterSpecOk P.num fs f0 q = false ∧ s.errcause = causeOf P.num fs f0 q) : Computed P s where
  valid := hvalid
  invalid := hinvalid
  analog _ _ _ _ _ _ h := by omega
  normalized _ _ _ _ _ _ h := by omega
  rescaled _ _ _ _ _ _ h := by omega
  quantized _ _ _ _ hw := absurd hw (hs.q14_ne_some (by omega))
  text _ _ _ h := absurd h (stage_ne_done (by omega))

theorem latches_unique {fs f0 q fs' f0' q' : NumTerm} (e1 : s.fs = some fs) (e2 : s.f0 = some f0) (e3 : s.qf = some q)
    (h1 : s.fs = some fs') (h2 : s.f0 = some f0') (h3 : s.qf = some q') : fs' = fs ∧ f0' = f0 ∧ q' = q :=
  ⟨Option.some.inj (h1.symm.trans e1), Option.some.inj (h2.symm.trans e2), Option.some.inj (h3.symm.trans e3)⟩

theorem Computed.of_chkOp (ht : Shape t) (h : chkOp P s = .next t) : Computed P t := by
  obtain ⟨fs, f0, q, e1, e2, e3, ⟨hv, rfl⟩ | ⟨hv, rfl⟩⟩ := chkOp_next h
  · have hr : stageRank Stage.drv = 2 := rfl
    refine .of_rank_le_two ht hr.le (fun fs' f0' q' h1 h2 h3 _ => ?_) fun _ _ _ _ _ _ h => nomatch h
    obtain ⟨rfl, rfl, rfl⟩ := latches_unique e1 e2 e3 h1 h2 h3
    exact hv
  · have hr : stageRank Stage.err = 1 := rfl
    refine .of_rank_le_two ht (hr.trans_le one_le_two) (fun _ _ _ _ _ _ h => ?_) fun fs' f0' q' h1 h2 h3 _ => ?_
    · simp [hr] at h
    · obtain ⟨rfl, rfl, rfl⟩ := latches_unique e1 e2 e3 h1 h2 h3
      exact ⟨hv, rfl⟩

theorem Computed.of_drvOp (ht : Shape t) (h : drvOp P s = .next t) : Computed P t := by
  obtain ⟨fs, f0, q, e1, e2, e3, hv, rfl⟩ := drvOp_next h
  have hr : stageRank (writeAnalog fs f0 q s).stage = 3 := rfl
  exact {
    valid fs' f0' q' h1 h2 h3 _ := by
      obtain ⟨rfl, rfl, rfl⟩ := latches_unique e1 e2 e3 h1 h2 h3
      exact hv
    invalid _ _ _ _ _ _ h := nomatch h
    analog fs' f0' q' h1 h2 h3 _ := by
      obtain ⟨rfl, rfl, rfl⟩ := latches_unique e1 e2 e3 h1 h2 h3
      exact ⟨rfl, rfl, rfl, rfl, rfl, rfl, rfl, rfl⟩
    normalized _ _ _ _ _ _ h := by omega
    rescaled _ _ _ _ _ _ h := by omega
    quantized _ _ _ _ hw := absurd hw (ht.q14_ne_some (by omega))
    text _ _ _ h := nomatch h }

theorem Computed.of_nrmOp (hc : Computed P s) (hst : s.stage = Stage.nrm) (ht : Shape t) (h : nrmOp s = .next t) :
    Computed P t := by
  have hr : stageRank s.stage = 3 := by rw [hst]; rfl
  obtain ⟨b0, b1, b2, a0, a1, a2, e1, e2, e3, e4, e5, e6, rfl⟩ := nrmOp_next h
  have hr' : stageRank (writeNormalized b0 b1 b2 a0 a1 a2 s).stage = 4 := rfl
  exact {
    valid fs f0 q h1 h2 h3 _ := hc.valid fs f0 q h1 h2 h3 (by omega)
    invalid _ _ _ _ _ _ h := nomatch h
    analog fs f0 q h1 h2 h3 _ := hc.analog fs f0 q h1 h2 h3 hr.ge
    normalized fs f0 q h1 h2 h3 _ := by
      obtain ⟨-, -, hb0, hb1, hb2, ha0, ha1, ha2⟩ := hc.analog fs f0 q h1 h2 h3 hr.ge
      cases e1.symm.trans hb0
      cases e2.symm.trans hb1
      cases e3.symm.trans hb2
      cases e4.symm.trans ha0
      cases e5.symm.trans ha1
      cases e6.symm.trans ha2
      rfl
    rescaled _ _ _ _ _ _ h := by omega
    quantized _ _ _ _ hw := absurd hw (ht.q14_ne_some (by omega))
    text _ _ _ h := nomatch h }

/-- UGN where W0 and N hold what the run has computed: G, DEGEN and the coefficients of `finalCoefs` (R82). -/
theorem ugnOp_rescales {fs f0 q : NumTerm} (hw0 : s.w0 = some (w0Formula fs f0))
    (hn : s.n = (normalizedOf fs f0 q).map some) (hg : s.ug = false → s.g = none) (hd : s.status.degen = false)
    (h : ugnOp P s = .next t) :
    t.n = (finalCoefs P.num fs f0 q s.ug).map some ∧ t.g = (if s.ug then some (gainOf fs f0 q) else none) ∧
      t.status.degen = (s.ug && P.num.isZero (gainOf fs f0 q)) := by
  obtain ⟨hu, rfl⟩ | ⟨hu, w0, n, e1, e2, rfl⟩ := ugnOp_next h
  · rw [hu]
    exact ⟨hn, hg hu, hd⟩
  · cases e1.symm.trans hw0
    cases PerCoef.map_some_inj (e2.symm.trans hn)
    obtain ⟨hz, ha⟩ | ⟨hz, ha⟩ := applyGain_cases P (normalizedOf fs f0 q) (gainOf fs f0 q) s
    · rw [← gainOf, ha, hu, finalCoefs_of_isZero hz, hz]
      exact ⟨hn, rfl, rfl⟩
    · rw [← gainOf, ha, hu, finalCoefs_of_not_isZero hz, hz]
      refine ⟨?_, rfl, hd⟩
      simp [hn, PerCoef.map]

/-- UGN leaves QB0 in STAGE and keeps what DRV wrote. -/
theorem ugnOp_sameAnalog (h : ugnOp P s = .next t) : t.stage = Stage.qb0 ∧ SameLatches s t ∧ SameAnalog s t := by
  obtain ⟨-, rfl⟩ | ⟨-, w0, n, -, -, rfl⟩ := ugnOp_next h
  · exact ⟨rfl, ⟨rfl, rfl, rfl, rfl⟩, rfl, rfl, rfl, rfl, rfl, rfl, rfl, rfl⟩
  · obtain ⟨-, ha⟩ | ⟨-, ha⟩ := applyGain_cases P n (gainFormula n w0) s
    · simp [ha, SameLatches, SameAnalog]
    · simp [ha, SameLatches, SameAnalog]

theorem Computed.of_ugnOp (hc : Computed P s) (hst : s.stage = Stage.ugn) (hs : Shape s) (ht : Shape t)
    (h : ugnOp P s = .next t) : Computed P t := by
  have hr : stageRank s.stage = 4 := by rw [hst]; rfl
  obtain ⟨hst', ⟨hfs, hf0, hqf, hug⟩, hw0, halpha, hb0, hb1, hb2, ha0, ha1, ha2⟩ := ugnOp_sameAnalog h
  have hr' : stageRank t.stage = 5 := by rw [hst']; rfl
  have hg : s.ug = false → s.g = none := fun hu => by simpa [hu] using hs.g
  constructor
  case valid =>
    intro fs f0 q h1 h2 h3 _
    exact hc.valid fs f0 q (hfs ▸ h1) (hf0 ▸ h2) (hqf ▸ h3) (by omega)
  case invalid =>
    intro _ _ _ _ _ _ h
    cases hst'.symm.trans h
  case analog =>
    intro fs f0 q h1 h2 h3 _
    rw [hw0, halpha, hb0, hb1, hb2, ha0, ha1, ha2]
    exact hc.analog fs f0 q (hfs ▸ h1) (hf0 ▸ h2) (hqf ▸ h3) (by omega)
  case normalized =>
    intro _ _ _ _ _ _ h
    omega
  case rescaled =>
    intro fs f0 q h1 h2 h3 _
    rw [hfs] at h1
    rw [hf0] at h2
    rw [hqf] at h3
    obtain ⟨hw, -⟩ := hc.analog fs f0 q h1 h2 h3 (by omega)
    rw [hug]
    exact ugnOp_rescales hw (hc.normalized fs f0 q h1 h2 h3 hr) hg (hs.degen_eq_false (by omega)) h
  case quantized =>
    intro _ _ _ _ hw
    exact absurd hw (ht.q14_ne_some (by omega))
  case text =>
    intro _ _ _ h
    exact absurd h (stage_ne_done (by omega))

/-- The values are kept by the writes of a quantize operation, where the word and the flag are its coefficient's. -/
theorem Computed.of_writeQuantized (hc : Computed P s) {c : Coef} {next : StageCode} {x : NumTerm} {q : Int} {b : Bool}
    (hr : 5 ≤ stageRank s.stage) (hrest : Stage.resting next = false) (hnext : stageRank next = quantizedRank c)
    (hx : s.n.get c = some x) (hq : Quantized P x (enc16 q) b) (hmem : -32768 ≤ q ∧ q ≤ 32767) :
    Computed P (writeQuantized c x q b next s) := by
  obtain ⟨-, hnd, hne⟩ := resting_eq_false.mp hrest
  obtain ⟨hc6, -⟩ := quantizedRank_mem c
  exact {
    valid fs f0 q h1 h2 h3 _ := hc.valid fs f0 q h1 h2 h3 (by omega)
    invalid _ _ _ _ _ _ h := absurd h hne
    analog fs f0 q h1 h2 h3 _ := hc.analog fs f0 q h1 h2 h3 (by omega)
    normalized _ _ _ _ _ _ h := by
      rw [writeQuantized_stage, hnext] at h
      omega
    rescaled fs f0 q h1 h2 h3 _ := hc.rescaled fs f0 q h1 h2 h3 hr
    quantized i y w hy hw := by
      by_cases hi : i = c
      · subst hi
        cases hx.symm.trans hy
        rw [writeQuantized_q14, PerCoef.get_set_same] at hw
        cases hw
        exact ⟨by simpa using hq, q, rfl, hmem.1, hmem.2, by simp⟩
      · simp only [writeQuantized_n, writeQuantized_q14, writeQuantized_qe, writeQuantized_status,
          PerCoef.get_set_ne _ _ hi] at hy hw ⊢
        exact hc.quantized i y w hy hw
    text _ _ _ h := absurd h hnd }

theorem Computed.of_quantizeOp (hc : Computed P s) {c : Coef} {next : StageCode} (hr : 5 ≤ stageRank s.stage)
    (hrest : Stage.resting next = false) (hnext : stageRank next = quantizedRank c)
    (h : quantizeOp P c next s = .next t) : Computed P t := by
  obtain ⟨x, hx, ⟨hf, rfl⟩ | ⟨hf, rfl⟩⟩ := quantizeOp_next h
  · exact hc.of_writeQuantized hr hrest hnext hx (by simp [Quantized, hf]) (quantize_mem P x)
  · have hw : Computed P (writeQuantized c x (drawnWord P s) true next s) :=
      hc.of_writeQuantized hr hrest hnext hx (by simp [Quantized, hf]) (dec16_mem _)
    exact { hw with }

theorem Computed.of_emitOp (hc : Computed P s) (hst : s.stage = Stage.emit) (h : emitOp P s = .next t) :
    Computed P t := by
  have hr : stageRank s.stage = 10 := by rw [hst]; rfl
  obtain ⟨n, q, e, hn, hq, he, rfl⟩ := emitOp_next h
  have hr' : stageRank Stage.done = 11 := rfl
  exact {
    valid fs f0 q h1 h2 h3 _ := hc.valid fs f0 q h1 h2 h3 (by omega)
    invalid _ _ _ _ _ _ h := nomatch h
    analog fs f0 q h1 h2 h3 _ := hc.analog fs f0 q h1 h2 h3 (by omega)
    normalized _ _ _ _ _ _ h := by
      rw [endRun_stage] at h
      omega
    rescaled fs f0 q h1 h2 h3 _ := hc.rescaled fs f0 q h1 h2 h3 (by omega)
    quantized := hc.quantized
    text n' q' e' _ hn' hq' he' := by
      cases PerCoef.map_some_inj (hn.symm.trans hn')
      cases PerCoef.map_some_inj (hq.symm.trans hq')
      cases PerCoef.map_some_inj (he.symm.trans he')
      rfl }

theorem Computed.of_execWith (hc : Computed P s) (hs : Shape s) {i : Instr} (hi : i.format = .stage)
    (hcode : (encodeWord i).setWidth 4 = s.stage) (ht : Shape t) (h : execWith P i s = .next t) : Computed P t := by
  cases i with
  | chk => exact .of_chkOp ht h
  | drv => exact .of_drvOp ht h
  | nrm => exact hc.of_nrmOp hcode.symm ht h
  | ugn => exact hc.of_ugnOp hcode.symm hs ht h
  | qb0 => exact hc.of_quantizeOp (by rw [← hcode]; decide) rfl rfl h
  | qb1 => exact hc.of_quantizeOp (by rw [← hcode]; decide) rfl rfl h
  | qb2 => exact hc.of_quantizeOp (by rw [← hcode]; decide) rfl rfl h
  | qa1 => exact hc.of_quantizeOp (by rw [← hcode]; decide) rfl rfl h
  | qa2 => exact hc.of_quantizeOp (by rw [← hcode]; decide) rfl rfl h
  | emit => exact hc.of_emitOp hcode.symm h
  | reset => cases hi
  | start => cases hi

end

/-! ### The invariant -/

theorem inv_resetRegisters (P : Params) (s : State) : Inv P (resetRegisters s) :=
  ⟨shape_resetRegisters s, .of_rank_le_two (shape_resetRegisters s) (Nat.zero_le 2) (fun _ _ _ h => nomatch h)
    fun _ _ _ h => nomatch h⟩

theorem inv_beginRun (P : Params) (s : State) : Inv P (beginRun s) := by
  have hr : stageRank Stage.chk = 1 := rfl
  refine ⟨shape_beginRun s, .of_rank_le_two (shape_beginRun s) (hr.trans_le one_le_two) (fun _ _ _ _ _ _ h => ?_)
    fun _ _ _ _ _ _ h => nomatch h⟩
  simp [hr] at h

section
variable {P : Params} {s t : State}

/-- The invariant does not look at the wires either. -/
theorem Inv.withWires (h : Inv P s) (w : HostPorts) : Inv P { s with wires := w } := by
  obtain ⟨hs, hc⟩ := h
  exact ⟨{ hs with }, { hc with }⟩

theorem Inv.of_sequencerTurn (h : Inv P s) (ht : sequencerTurn (execWith P) s = .next t) : Inv P t := by
  obtain ⟨i, hi, hcode, hrun⟩ | rfl := sequencerTurn_cases ht
  · obtain ⟨hs, hc⟩ := h
    have hshape := hs.of_execWith hi hcode hrun
    exact ⟨hshape, hc.of_execWith hs hi hcode hshape hrun⟩
  · exact h

theorem Inv.of_hostTurn (h : Inv P s) (ht : hostTurn (execWith P) s = .next t) : Inv P t := by
  obtain ⟨-, hreset⟩ | ⟨-, -, hstart⟩ | ⟨-, -, rfl⟩ := hostTurn_next ht
  · cases hreset
    exact inv_resetRegisters P s
  · obtain ⟨-, rfl⟩ | ⟨-, rfl⟩ := execStart_next hstart
    · exact inv_beginRun P s
    · exact h
  · exact h

theorem Inv.of_stepWith (h : Inv P s) (ht : stepWith P s = .next t) : Inv P t := by
  obtain ⟨-, hq⟩ | ⟨rest, -, hq⟩ | ⟨w, rest, -, hw⟩ | ⟨p, rest, -, hp⟩ := turnStep_next ht
  · exact h.of_sequencerTurn hq
  · exact (h.withTurns rest).of_sequencerTurn hq
  · exact ((h.withTurns rest).withWires w).of_hostTurn hw
  · obtain ⟨rfl, -⟩ := execRead_next hp
    exact h.withTurns rest

end

/-- Settles O39: the state of R36 is the one RESET leaves. -/
theorem resetMeetsTheInvariant : Obligations.ResetMeetsTheInvariant :=
  inv_resetRegisters Config.hw State.reset

/-- Settles O40, turn by turn: the shape from what a stage operation does to it, the values operation by operation. -/
theorem stepKeepsTheInvariant : Obligations.StepKeepsTheInvariant := by
  refine ⟨fun s t h ht => ?_, fun P s t h ht => h.of_stepWith ht⟩
  rw [← stepWith_hw] at ht
  exact h.of_stepWith ht

end Sys2Proof.Machine
end

section
/-! PROOFS. The statements of 30_encoding.md: the opcode map, the host's lines, the reserved codes, the bits of
STATUSWORD and of a Q14 word, and the printed decimals. -/

namespace Sys2Proof.Machine

/-! ### The opcode map (R53, R55) -/

theorem decodeWord_encodeWord (i : Instr) : decodeWord i.format (encodeWord i) = .ok i := by
  cases i <;> decide

theorem decode_encode_append (i : Instr) (rest : List Byte) : decode i.format (encode i ++ rest) = .ok (i, rest) := by
  rw [encode, List.singleton_append, decode, decodeWord_encodeWord]

/-- Settles O1: the codes written out are the encoder's words; the words of no operation run through every row. -/
theorem opcodeMapDecodes : Obligations.OpcodeMapDecodes := by
  have hop : ∀ i : Instr, decode i.format (encode i) = .ok (i, []) := fun i => decode_encode_append i []
  exact ⟨hop .chk, hop .drv, hop .nrm, hop .ugn, hop .qb0, hop .qb1, hop .qb2, hop .qa1, hop .qa2, hop .emit,
    rfl, rfl, rfl, rfl, rfl, rfl, hop .reset, rfl, hop .start, rfl⟩

theorem decode_cons_ok {f : Format} {b : Byte} {i : Instr} {rest rest' : List Byte}
    (h : decode f (b :: rest) = .ok (i, rest')) : decodeWord f b = .ok i ∧ rest' = rest := by
  cases hw : decodeWord f b with
  | ok j =>
    simp only [decode, hw] at h
    cases h
    exact ⟨rfl, rfl⟩
  | error e => simp [decode, hw] at h

/-- A word that decodes is taken by a row of the opcode map. -/
theorem decodeWord_ok {f : Format} {b : Byte} {i : Instr} (h : decodeWord f b = .ok i) :
    b.toNat < 2 ^ f.width ∧ ∃ r ∈ opRows, r.fmt = f ∧ b &&& r.mask = r.pat ∧ r.instr = i := by
  unfold decodeWord at h
  split at h
  · next hb =>
    split at h
    · next r hr =>
      have htakes := List.find?_some hr
      simp only [Bool.and_eq_true, beq_iff_eq] at htakes
      exact ⟨hb, r, List.mem_of_find?_eq_some hr, htakes.1, htakes.2, Except.ok.inj h⟩
    · cases h
  · cases h

/-- The one row that does not mask its whole format is RESET's, which leaves the start line open. -/
theorem opRows_word : ∀ r ∈ opRows, r.fmt = r.instr.format ∧
    ∀ b : Byte, b.toNat < 2 ^ r.fmt.width → b &&& r.mask = r.pat →
      b = encodeWord r.instr ∨ r.instr = .reset ∧ b = 0b11#8 := by
  decide

/-- Settles O2: the encoder's words are taken by their own rows, and a row takes no other word but RESET's second one. -/
theorem decodeAndEncodeAgree : Obligations.DecodeAndEncodeAgree := by
  refine ⟨fun i rest _ => decode_encode_append i rest, fun f b i rest rest' h => ?_⟩
  obtain ⟨hw, hrest⟩ := decode_cons_ok h
  obtain ⟨hb, r, hr, rfl, htakes, rfl⟩ := decodeWord_ok hw
  obtain ⟨hf, hword⟩ := opRows_word r hr
  exact ⟨hrest, hf, hword b hb htakes⟩

/-! ### The host's lines (R55) -/

theorem hostTurn_eq (run : Instr → State → Res) (s : State) :
    hostTurn run s = if s.wires.rst then run .reset s else if s.wires.start then run .start s else .next s := by
  rw [hostTurn, hostRequest_hostCtl]
  cases s.wires.rst with
  | true => rfl
  | false => cases s.wires.start <;> rfl

/-- Settles O4: a lines turn is the host's, and its request is read from the lines with RESET first. -/
theorem hostLinesRequest : Obligations.HostLinesRequest := by
  intro s w rest ht
  rw [step, turnStep_of_lines ht, hostTurn_eq]
  exact ⟨fun hr => if_pos hr, fun hr hs => by simp [hr, hs], fun hr hs => by simp [hr, hs]⟩

/-! ### The reserved codes (R54) -/

theorem stageMeaning_of_reserved : ∀ {c : StageCode}, Stage.reserved c = true → stageMeaning c = .stuck := by
  decide

theorem not_resting_of_reserved : ∀ {c : StageCode}, Stage.reserved c = true → Stage.resting c = false := by
  decide

theorem sequencerTurn_of_reserved {run : Instr → State → Res} {s : State} (h : Stage.reserved s.stage = true) :
    sequencerTurn run s = .fault (.stuckStage s.stage) := by
  rw [sequencerTurn, stageMeaning_of_reserved h]

theorem execStart_of_reserved {s : State} (h : Stage.reserved s.stage = true) : execStart s = .next s := by
  simp [execStart, not_resting_of_reserved h]

/-- The sequencer goes from a code to one of its successors, none of them reserved. -/
theorem sequencerTurn_keeps_defined {P : Params} {s t : State} (hs : Stage.reserved s.stage = false)
    (h : sequencerTurn (execWith P) s = .next t) : Stage.reserved t.stage = false := by
  obtain ⟨i, hi, -, hrun⟩ | rfl := sequencerTurn_cases h
  · obtain ⟨-, hdefined, -⟩ := advances_successors hi t.stage (execWith_effect hi hrun).stage
    exact hdefined
  · exact hs

/-- The host goes to IDLE or CHK, or leaves STAGE alone. -/
theorem hostTurn_keeps_defined {P : Params} {s t : State} (hs : Stage.reserved s.stage = false)
    (h : hostTurn (execWith P) s = .next t) : Stage.reserved t.stage = false := by
  obtain ⟨-, hreset⟩ | ⟨-, -, hstart⟩ | ⟨-, -, rfl⟩ := hostTurn_next h
  · cases hreset
    rfl
  · obtain ⟨-, rfl⟩ | ⟨-, rfl⟩ := execStart_next hstart
    · rfl
    · exact hs
  · exact hs

theorem stepWith_keeps_defined {P : Params} {s t : State} (hs : Stage.reserved s.stage = false)
    (h : stepWith P s = .next t) : Stage.reserved t.stage = false := by
  obtain ⟨-, hq⟩ | ⟨rest, -, hq⟩ | ⟨w, rest, -, hw⟩ | ⟨p, rest, -, hp⟩ := turnStep_next h
  · exact sequencerTurn_keeps_defined hs hq
  · exact sequencerTurn_keeps_defined (s := { s with turns := rest }) hs hq
  · exact hostTurn_keeps_defined (s := { s with turns := rest, wires := w }) hs hw
  · obtain ⟨rfl, -⟩ := execRead_next hp
    exact hs

/-- In a reserved code the host's turn changes STAGE by RESET alone. -/
theorem hostTurn_of_reserved {P : Params} {s t : State} (hs : Stage.reserved s.stage = true)
    (h : hostTurn (execWith P) s = .next t) : t.stage = s.stage ∨ s.wires.rst = true := by
  obtain ⟨hr, -⟩ | ⟨-, -, hstart⟩ | ⟨-, -, rfl⟩ := hostTurn_next h
  · exact .inr hr
  · cases (execStart_of_reserved hs).symm.trans hstart
    exact .inl rfl
  · exact .inl rfl

theorem stepWith_of_reserved {P : Params} {s t : State} (hs : Stage.reserved s.stage = true)
    (h : stepWith P s = .next t) : t.stage = s.stage ∨ ∃ w rest, s.turns = .lines w :: rest ∧ w.rst = true := by
  obtain ⟨-, hq⟩ | ⟨rest, -, hq⟩ | ⟨w, rest, ht, hw⟩ | ⟨p, rest, -, hp⟩ := turnStep_next h
  · cases (sequencerTurn_of_reserved hs).symm.trans hq
  · cases (sequencerTurn_of_reserved (s := { s with turns := rest }) hs).symm.trans hq
  · obtain hst | hr := hostTurn_of_reserved (s := { s with turns := rest, wires := w }) hs hw
    · exact .inl hst
    · exact .inr ⟨w, rest, ht, hr⟩
  · obtain ⟨rfl, -⟩ := execRead_next hp
    exact .inl rfl

/-- Settles O5, turn by turn: a stage operation leaves one of its successors, and a reserved code is no operation's. -/
theorem reservedStageCodes : Obligations.ReservedStageCodes := by
  refine ⟨fun c => ?_, fun s t hs h => ?_, fun s hs => ⟨fun ht => ?_, fun rest ht => ?_, execStart_of_reserved hs,
    ⟨resetRegisters s, rfl, rfl⟩, fun t h => ?_⟩⟩
  · simp [Stage.reserved, or_assoc]
  · rw [← stepWith_hw] at h
    exact stepWith_keeps_defined hs h
  · exact (turnStep_of_nil ht).trans (sequencerTurn_of_reserved hs)
  · exact (turnStep_of_seq ht).trans (sequencerTurn_of_reserved hs)
  · rw [← stepWith_hw] at h
    exact stepWith_of_reserved hs h

/-! ### STATUSWORD (R56) -/

/-- The sum of flags in STATUSWORD as a number given by its bits, the least significant outermost. -/
theorem statusWord_eq_bits (f : Status) :
    statusWord f = BitVec.ofNat 16 (Nat.bit f.busy <| Nat.bit f.done <| Nat.bit f.err <| Nat.bit f.degen <|
      Nat.bit f.sat.b0 <| Nat.bit f.sat.b1 <| Nat.bit f.sat.b2 <| Nat.bit f.sat.a1 <| Nat.bit f.sat.a2 0) := by
  have hflag : ∀ b k, flagBit b k = b.toNat * 2 ^ k := fun b k => by cases b <;> simp [flagBit]
  rw [statusWord]
  congr 1
  simp only [hflag, Nat.bit_val]
  ring

theorem statusWord_bit_of_nine_le (f : Status) {k : Nat} (hk : 9 ≤ k) : (statusWord f).getLsbD k = false := by
  obtain ⟨j, rfl⟩ := Nat.exists_eq_add_of_le' hk
  rw [statusWord_eq_bits, BitVec.getLsbD_ofNat]
  simp [Nat.testBit_bit_succ]

/-- Settles O28: bit k is found by taking the k lower ones off. -/
theorem statusWordBits : Obligations.StatusWordBits := by
  intro f
  refine ⟨?_, ?_, ?_, ?_, ?_, ?_, ?_, ?_, ?_, fun _ => statusWord_bit_of_nine_le f⟩
  all_goals
    rw [statusWord_eq_bits, BitVec.getLsbD_ofNat]
    simp [Nat.testBit_bit_succ, PerCoef.get]

/-! ### The Q14 word (R51, R52) -/

theorem dec16_eq_toInt (p : Word) : dec16 p = p.toInt := by
  rw [dec16, BitVec.toInt_eq_toNat_cond]
  split <;> split <;> omega

theorem enc16_dec16 (p : Word) : enc16 (dec16 p) = p := by
  rw [dec16_eq_toInt, enc16, BitVec.ofInt_toInt]

theorem dec16_enc16 {n : Int} (hlo : -32768 ≤ n) (hhi : n ≤ 32767) : dec16 (enc16 n) = n := by
  rw [dec16_eq_toInt, enc16, BitVec.toInt_ofInt]
  exact Int.bmod_eq_of_le (by omega) (by omega)

theorem toNat_enc16 (n : Int) : ((enc16 n).toNat : Int) = n % 65536 := by
  rw [enc16, BitVec.toNat_ofInt]
  omega

/-- Settles O29: dec16 is the two's complement reading, which the library inverts. -/
theorem wordsAndIntegersAgree : Obligations.WordsAndIntegersAgree :=
  ⟨fun n hlo hhi => ⟨toNat_enc16 n, dec16_enc16 hlo hhi⟩, fun p => ⟨enc16_dec16 p, dec16_mem p⟩⟩

/-- A bit of a word is a binary digit of its number. -/
theorem bit_eq_digit (p : Word) (k : Nat) : (if p.getLsbD k then 1 else 0 : Int) = (p.toNat / 2 ^ k % 2 : Nat) := by
  rw [BitVec.getLsbD, Nat.testBit_eq_decide_div_mod_eq]
  obtain h | h := Nat.mod_two_eq_zero_or_one (p.toNat / 2 ^ k)
  · simp [h]
  · simp [h]

/-- Settles O30: the number of the word is 2^15·S + 2^14·I + F, and dec16 takes 2^16 off it where S is 1. -/
theorem q14WordFields : Obligations.Q14WordFields := by
  intro p
  have hlt : p.toNat < 2 ^ 16 := p.isLt
  rw [bit_eq_digit, bit_eq_digit, dec16]
  split
  · omega
  · omega

/-! ### The printed decimals (R60, R61) -/

theorem toNat_digit {d : Nat} (h : d < 10) : (digit d).toNat = 48 + d := by
  rw [digit, BitVec.toNat_ofNat]
  omega

theorem readDigits_append (acc : Nat) (l l' : List Byte) :
    readDigits acc (l ++ l') = (readDigits acc l).bind fun a => readDigits a l' := by
  induction l generalizing acc with
  | nil => rfl
  | cons b l ih =>
    simp only [List.cons_append, readDigits]
    split
    · exact ih _
    · rfl

theorem readDigits_digit (acc : Nat) {d : Nat} (h : d < 10) : readDigits acc [digit d] = some (10 * acc + d) := by
  have hchar : 48 + d < 58 := by omega
  simp [readDigits, toNat_digit h, hchar]

theorem readDigits_decFuel {fuel m : Nat} (h : m < fuel) : readDigits 0 (decFuel fuel m) = some m := by
  induction fuel generalizing m with
  | zero => omega
  | succ fuel ih =>
    rw [decFuel]
    split
    · next hm => rw [readDigits_digit 0 hm, Nat.mul_zero, Nat.zero_add]
    · have hlast : m % 10 < 10 := by omega
      rw [readDigits_append, ih (by omega), Option.bind_some, readDigits_digit _ hlast, Nat.div_add_mod]

theorem readDigits_dec (m : Nat) : readDigits 0 (dec m) = some m := readDigits_decFuel m.lt_succ_self

theorem dec_ne_nil (m : Nat) : dec m ≠ [] := by
  rw [dec, decFuel]
  split <;> simp

theorem length_decPadded (d m : Nat) : (decPadded d m).length = d := by
  induction d generalizing m with
  | zero => rfl
  | succ d ih => rw [decPadded, List.length_append, ih, List.length_singleton]

theorem readDigits_decPadded (acc d m : Nat) :
    readDigits acc (decPadded d m) = some (10 ^ d * acc + m % 10 ^ d) := by
  induction d generalizing m with
  | zero => simp [decPadded, readDigits, Nat.mod_one]
  | succ d ih =>
    have hlast : m % 10 < 10 := by omega
    rw [decPadded, readDigits_append, ih, Option.bind_some, readDigits_digit _ hlast, pow_succ', Nat.mod_mul]
    congr 1
    ring

/-- The digits before and after the point are together those of the integer. -/
theorem readDigits_fixedPoint (d m : Nat) : readDigits 0 (dec (m / 10 ^ d) ++ decPadded d (m % 10 ^ d)) = some m := by
  rw [readDigits_append, readDigits_dec, Option.bind_some, readDigits_decPadded, Nat.mod_mod, Nat.div_add_mod]

theorem fmtInt_eq (m : Int) (d : Nat) :
    fmtInt m d = (if m < 0 then 0x2D#8 else 0x2B#8) ::
      (dec (m.natAbs / 10 ^ d) ++ 0x2E#8 :: decPadded d (m.natAbs % 10 ^ d)) := by
  have hminus : ascii "-" = [0x2D#8] := by decide
  have hplus : ascii "+" = [0x2B#8] := by decide
  have hpoint : ascii "." = [0x2E#8] := by decide
  rw [fmtInt, hminus, hplus, hpoint]
  split <;> simp

theorem fmt_of_finite {P : Params} {x : NumTerm} (h : P.num.finite x = true) (d : Nat) :
    fmt P x d = fmtInt (roundTie P.tie (Scaled.ofReal (P.num.val x * 10 ^ d))) d := by
  rw [fmt, if_pos h, P.num.scaled_eq x _ h, Nat.cast_pow, Nat.cast_ofNat]

theorem fmt_of_not_finite {P : Params} {x : NumTerm} (h : P.num.finite x = false) (d : Nat) : fmt P x d = ascii "nan" :=
  if_neg (Bool.eq_false_iff.mp h)

/-- Settles O38: `fmt` prints the rounded integer by `fmtInt`, whose digits read back as its magnitude. -/
theorem fixedPointPrintsTheRoundedInteger : Obligations.FixedPointPrintsTheRoundedInteger := by
  refine ⟨fun P x d m _ hf hm => ?_, fun P x d hf => ?_⟩
  · rw [fmt_of_finite hf, ← hm]
    exact ⟨_, _, _, fmtInt_eq m d, rfl, dec_ne_nil _, length_decPadded _ _, readDigits_fixedPoint d m.natAbs⟩
  · rw [fmt_of_not_finite hf]
    decide

end Sys2Proof.Machine
end

section
/-! PROOFS. The statements of 40_validate_derive.md: what CHK decides, what DRV derives, and what follows of whole runs. -/

namespace Sys2Proof.Machine

/-! ### CHK and DRV where the latches are written (R70, R71, R74) -/

section
variable {P : Params} {s : State} {fs f0 q : NumTerm} (hfs : s.fs = some fs) (hf0 : s.f0 = some f0) (hq : s.qf = some q)
include hfs hf0 hq

theorem chkOp_of_valid (h : filterSpecOk P.num fs f0 q = true) : chkOp P s = .next { s with stage := Stage.drv } := by
  rw [chkOp, hfs, hf0, hq, need_some, need_some, need_some, if_pos h]

theorem chkOp_of_invalid (h : filterSpecOk P.num fs f0 q = false) :
    chkOp P s = .next (raiseParameterRangeError (causeOf P.num fs f0 q) s) := by
  rw [chkOp, hfs, hf0, hq, need_some, need_some, need_some, if_neg (Bool.eq_false_iff.mp h)]

theorem drvOp_of_valid (h : filterSpecOk P.num fs f0 q = true) : drvOp P s = .next (writeAnalog fs f0 q s) := by
  rw [drvOp, hfs, hf0, hq, need_some, need_some, need_some, if_pos h]

theorem drvOp_of_invalid (h : filterSpecOk P.num fs f0 q = false) : drvOp P s = .refused .invalidFilterSpec := by
  rw [drvOp, hfs, hf0, hq, need_some, need_some, need_some, if_neg (Bool.eq_false_iff.mp h)]

/-- CHK decides by any proposition that says what its four tests do. -/
theorem chkOp_decides {valid : Prop} (h : filterSpecOk P.num fs f0 q = true ↔ valid) :
    (valid → chkOp P s = .next { s with stage := Stage.drv }) ∧
    (¬valid → ∃ t, chkOp P s = .next t ∧ t.stage = Stage.err ∧ t.status.err = true ∧ t.errcause ≠ 0#4) := by
  refine ⟨fun hv => chkOp_of_valid hfs hf0 hq (h.mpr hv), fun hv => ?_⟩
  have hbad : ¬filterSpecOk P.num fs f0 q = true := mt h.mp hv
  exact ⟨_, chkOp_of_invalid hfs hf0 hq (Bool.eq_false_iff.mpr hbad), rfl, rfl,
    mt (causeOf_eq_zero P.num fs f0 q).mp hbad⟩

end

/-- ERRCAUSE has one bit per cause (R57). -/
theorem causeWord_bits : ∀ cFs cF0 cNyq cQ : Bool,
    (causeWord cFs cF0 cNyq cQ).getLsbD 0 = cFs ∧ (causeWord cFs cF0 cNyq cQ).getLsbD 1 = cF0 ∧
    (causeWord cFs cF0 cNyq cQ).getLsbD 2 = cNyq ∧ (causeWord cFs cF0 cNyq cQ).getLsbD 3 = cQ := by decide

/-- Settles O8: the four Booleans are CHK's tests, and the causes are their negations, bit by bit. -/
theorem chkTestsTheFilterSpec : Obligations.ChkTestsTheFilterSpec := by
  rintro s fs f0 q hfs hf0 hq _ _ _ _ rfl rfl rfl rfl
  refine ⟨fun h => chkOp_of_valid (P := Config.hw) hfs hf0 hq h, fun h => ⟨causeOf Config.num fs f0 q, ?_⟩⟩
  obtain ⟨h0, h1, h2, h3⟩ := causeWord_bits (!okFs Config.num fs) (!okF0 Config.num f0) (!okNyq Config.num fs f0)
    (!okQ Config.num q)
  exact ⟨h0, h1, h2, h3, chkOp_of_invalid (P := Config.hw) hfs hf0 hq h⟩

/-- Where halving fs is exact, CHK's four tests are the document's preconditions on the reals (R70). -/
theorem filterSpecOk_iff_of_halves {M : NUM} {fs : NumTerm} (hh : Halves M fs) (f0 q : NumTerm) :
    filterSpecOk M fs f0 q = true ↔ M.finite fs = true ∧ M.finite f0 = true ∧ M.finite q = true ∧ 0 < M.val fs ∧
      0 < M.val f0 ∧ M.val f0 < M.val fs / 2 ∧ 0 < M.val q := by
  rw [filterSpecOk_iff]
  constructor
  · rintro ⟨⟨hfs, h1⟩, ⟨hf0, h2⟩, ⟨-, h3⟩, hq, h4⟩
    rw [(hh hfs).2] at h3
    exact ⟨hfs, hf0, hq, h1, h2, h3, h4⟩
  · rintro ⟨hfs, hf0, hq, h1, h2, h3, h4⟩
    obtain ⟨hfin, hval⟩ := hh hfs
    exact ⟨⟨hfs, h1⟩, ⟨hf0, h2⟩, ⟨hfin, hval.symm ▸ h3⟩, hq, h4⟩

/-- Settles O55: CHK decides by its tests, which are the preconditions where fs is halved exactly. -/
theorem chkDecidesThePreconditions : Obligations.ChkDecidesThePreconditions := by
  intro P s fs f0 q hfs hf0 hq hh valid hvalid
  exact chkOp_decides hfs hf0 hq ((filterSpecOk_iff_of_halves hh f0 q).trans hvalid.symm)

/-- The real that a literal held exactly denotes is its rational. -/
theorem Holds.val_eq_ratCast {M : NUM} {n : Int} {d : Nat} (h : Holds M n d) :
    M.val (.lit n d) = (((n : ℚ) / d : ℚ) : ℝ) := by
  rw [h.2]
  push_cast
  rfl

/-- CHK's four tests on rationals held exactly, where halving fs is exact. -/
theorem filterSpecOk_iff_of_holds {M : NUM} {a c e : Int} {b d f : Nat} (ha : Holds M a b) (hc : Holds M c d)
    (he : Holds M e f) (hh : Halves M (.lit a b)) :
    filterSpecOk M (.lit a b) (.lit c d) (.lit e f) = true ↔
      0 < (a : ℚ) / b ∧ 0 < (c : ℚ) / d ∧ (c : ℚ) / d < (a : ℚ) / b / 2 ∧ 0 < (e : ℚ) / f := by
  rw [filterSpecOk_iff_of_halves hh, ha.val_eq_ratCast, hc.val_eq_ratCast, he.val_eq_ratCast]
  simp only [ha.1, hc.1, he.1, true_and]
  exact_mod_cast Iff.rfl

/-- Settles O9: the preconditions of O55 on rationals, which the reals order as ℚ does. -/
theorem chkDecidesRationalFilterSpecs : Obligations.ChkDecidesRationalFilterSpecs := by
  intro P s a c e b d f ha hc he hh hfs hf0 hq
  exact chkOp_decides hfs hf0 hq (filterSpecOk_iff_of_holds ha hc he hh)

/-- Settles O10: the writes of DRV are `writeAnalog`. -/
theorem drvDerivesTheAnalogCoefficients : Obligations.DrvDerivesTheAnalogCoefficients := by
  rintro s fs f0 q _ _ hfs hf0 hq hv rfl rfl
  exact drvOp_of_valid (P := Config.hw) hfs hf0 hq hv

/-- Settles O11: DRV asks CHK's tests again. -/
theorem drvHasNoMeaningOnAnInvalidFilterSpec : Obligations.DrvHasNoMeaningOnAnInvalidFilterSpec :=
  fun _ _ _ _ _ hfs hf0 hq h => drvOp_of_invalid hfs hf0 hq h

/-! ### A run on a valid FilterSpec (R121) -/

theorem quantizeAfter_q_mem (P : Params) (d : Nat) (x : NumTerm) :
    -32768 ≤ (quantizeAfter P d x).q ∧ (quantizeAfter P d x).q ≤ 32767 := by
  unfold quantizeAfter
  split
  · exact quantize_mem P x
  · exact dec16_mem _

/-- The integer of a quantized value is the one its word stands for. -/
theorem dec16_enc16_quantizeAfter (P : Params) (d : Nat) (x : NumTerm) :
    dec16 (enc16 (quantizeAfter P d x).q) = (quantizeAfter P d x).q :=
  dec16_enc16 (quantizeAfter_q_mem P d x).1 (quantizeAfter_q_mem P d x).2

theorem quantized_quantizeAfter (P : Params) (d : Nat) (x : NumTerm) :
    Quantized P x (enc16 (quantizeAfter P d x).q) (quantizeAfter P d x).sat := by
  unfold Quantized quantizeAfter
  split
  · exact ⟨rfl, rfl⟩
  · rfl

/-- Of the five results each is what quantizing its coefficient gives, after some number of draws. -/
theorem quantizeFive_get (P : Params) (d : Nat) (n : PerCoef NumTerm) (i : Coef) :
    ∃ d', (quantizeFive P d n).get i = quantizeAfter P d' (n.get i) := by
  cases i <;> exact ⟨_, rfl⟩

theorem errorsOf_get (n : PerCoef NumTerm) (r : PerCoef QuantResult) (i : Coef) :
    (errorsOf n r).get i = qerr (n.get i) (r.get i).q := by
  cases i <;> rfl

/-- The word, the flag and the error of each coefficient. -/
theorem quantizeFive_spec (P : Params) (d : Nat) (n : PerCoef NumTerm) (i : Coef) :
    Quantized P (n.get i) ((wordsOf (quantizeFive P d n)).get i) ((satOf (quantizeFive P d n)).get i) ∧
    (errorsOf n (quantizeFive P d n)).get i = qerr (n.get i) (dec16 ((wordsOf (quantizeFive P d n)).get i)) := by
  obtain ⟨d', hd⟩ := quantizeFive_get P d n i
  rw [errorsOf_get, wordsOf, satOf, PerCoef.get_map, PerCoef.get_map, hd, dec16_enc16_quantizeAfter]
  exact ⟨quantized_quantizeAfter P d' _, rfl⟩

/-- Settles O44: the run ends in the state `designed`, whose registers are the ones asked for. -/
theorem pipelineDesignsAValidFilterSpec : Obligations.PipelineDesignsAValidFilterSpec := by
  intro P x s hs hv
  have hrun : pipelineWith P x s = .next (designed P x s.draws) := by rw [pipelineWith_eq P x hs, ended_of_valid hv]
  exact ⟨designed P x s.draws, wordsOf (quantizeFive P s.draws _), errorsOf _ (quantizeFive P s.draws _), hrun,
    rfl, rfl, rfl, rfl, rfl, rfl, rfl, rfl, rfl, rfl, rfl, rfl, rfl, rfl, rfl, rfl, rfl, rfl, rfl, rfl, rfl, rfl,
    quantizeFive_spec P s.draws _, rfl⟩

/-! ### B1 (R73 (f), R80) -/

theorem isZero_ofInt_zero (M : NUM) : M.isZero (NumTerm.ofInt 0) = true := by
  obtain ⟨hf, hv⟩ := M.ofInt_exact 0 (by decide) (by decide)
  exact (M.isZero_iff _).mpr ⟨hf, by rw [hv, Int.cast_zero]⟩

/-- B1N stays zero through its two divisions, by a0 and by the gain. -/
theorem isZero_finalCoefs_b1 {M : NUM} (hz : ZeroQuotient M) {fs f0 q : NumTerm} {ug : Bool}
    (ha : M.finite (.add (NumTerm.ofInt 1) (alphaFormula (w0Formula fs f0) q)) = true)
    (ha0 : M.isZero (.add (NumTerm.ofInt 1) (alphaFormula (w0Formula fs f0) q)) = false)
    (hg : ug = true → M.finite (gainOf fs f0 q) = true) : M.isZero (finalCoefs M fs f0 q ug).b1 = true := by
  have hn : M.isZero (normalizedOf fs f0 q).b1 = true := hz _ _ (isZero_ofInt_zero M) ha ha0
  cases ug with
  | false => exact hn
  | true =>
    cases hg0 : M.isZero (gainOf fs f0 q) with
    | true => rwa [finalCoefs_of_isZero hg0]
    | false =>
      rw [finalCoefs_of_not_isZero hg0]
      exact hz _ _ hn (hg rfl) hg0

/-- Settles O47: the run ends in `designed`, and a zero B1N has the zero word. -/
theorem b1StaysZero : Obligations.B1StaysZero := by
  intro P x s u a0 hz hs hr hdone ha0 hfin hne hg
  obtain ⟨-, rfl⟩ := pipelineWith_done hs hr hdone
  cases ha0
  have hb1 := isZero_finalCoefs_b1 hz hfin hne hg
  obtain ⟨hw, hsat⟩ := designed_b1_word s.draws hb1
  exact ⟨rfl, ⟨_, rfl, hb1⟩, hw, hsat⟩

end Sys2Proof.Machine

namespace Sys2Proof.Machine.Exact

/-! ### The bounds of the analog coefficients in EXACT (R73) -/

theorem abs_cos_lt_one {w : ℝ} (h : 0 < Real.sin w) : |Real.cos w| < 1 := by
  rw [← sq_lt_one_iff_abs_lt_one, Real.cos_sq']
  have : 0 < Real.sin w ^ 2 := by positivity
  linarith

/-- ALPHA is at most 1/(2Q), because a sine is at most 1. -/
theorem alpha_le {port : Nat → ℝ} {q : NumTerm} (w0 : NumTerm) (hq : 0 < val port q) :
    val port (alphaFormula w0 q) ≤ 1 / (2 * val port q) := by
  rw [val_alphaFormula w0 hq.ne']
  gcongr
  exact Real.sin_le_one _

/-- ALPHA above 1, which makes a2 negative, needs Q < 1/2. -/
theorem q_lt_half_of_one_lt_alpha {port : Nat → ℝ} {w0 q : NumTerm} (hq : 0 < val port q)
    (h : 1 < val port (alphaFormula w0 q)) : val port q < 1 / 2 := by
  have h1 : 1 < 1 / (2 * val port q) := h.trans_le (alpha_le w0 hq)
  rw [lt_div_iff₀ (by positivity)] at h1
  linarith

/-- Settles O48: the bounds of W0 and ALPHA carry over to the six coefficients by linear arithmetic. -/
theorem exactAnalogCoefficients : Obligations.ExactAnalogCoefficients := by
  intro port t free x s hfs hf0 hq hvalid
  have hv : filterSpecOk (num port) x.fs x.f0 x.q = true := (filterSpecOk_exact port _ _ _).mpr hvalid
  obtain ⟨-, -, -, hqpos⟩ := hvalid
  have hw0 := w0_mem hv
  have hsin := sin_w0_pos hv
  have hal := alpha_pos hv
  obtain ⟨hcos, hcos'⟩ := abs_lt.mp (abs_cos_lt_one hsin)
  have hq2 := q_lt_half_of_one_lt_alpha (w0 := w0Formula x.fs x.f0) hqpos
  refine ⟨_, _, _, _, _, _, _, _, _, drvOp_of_valid (P := params port t free) hfs hf0 hq hv, rfl, rfl, rfl, rfl, rfl, rfl,
    rfl, rfl, hw0.1, hw0.2, hsin, hal, alpha_le _ hqpos, ?_⟩
  simp only [val, val_ofInt, Int.cast_zero, Int.cast_one, Int.cast_ofNat, true_and]
  exact ⟨by linarith, by linarith, ⟨fun h => by linarith, fun h => by linarith⟩, fun h => hq2 (by linarith), by linarith,
    by linarith, by linarith, by linarith⟩

end Sys2Proof.Machine.Exact
end

section
/-! PROOFS. The statements of 41_normalize.md: what NRM and UGN write, and in EXACT the unit gain, the closed forms and
the poles of every run on a valid FilterSpec. -/

namespace Sys2Proof.Machine

/-! ### NRM and UGN where their operands are written (R80, R82) -/

theorem nrmOp_of_written {s : State} {b0 b1 b2 a0 a1 a2 : NumTerm} (hb0 : s.b0 = some b0) (hb1 : s.b1 = some b1)
    (hb2 : s.b2 = some b2) (ha0 : s.a0 = some a0) (ha1 : s.a1 = some a1) (ha2 : s.a2 = some a2) :
    nrmOp s = .next (writeNormalized b0 b1 b2 a0 a1 a2 s) := by
  simp only [nrmOp, hb0, hb1, hb2, ha0, ha1, ha2, need_some]

/-- Settles O12: the writes of NRM are `writeNormalized`. -/
theorem nrmDividesByA0 : Obligations.NrmDividesByA0 :=
  fun _ _ _ _ _ _ _ hb0 hb1 hb2 ha0 ha1 ha2 => nrmOp_of_written hb0 hb1 hb2 ha0 ha1 ha2

theorem ugnOp_of_ug_false (P : Params) {s : State} (hu : s.ug = false) :
    ugnOp P s = .next { s with stage := Stage.qb0 } := if_neg (Bool.eq_false_iff.mp hu)

section
variable {P : Params} {s : State} {w0 : NumTerm} {n : PerCoef NumTerm} (hu : s.ug = true) (hw : s.w0 = some w0)
  (hn : s.n = n.map some)
include hu hw hn

theorem ugnOp_of_ug_true :
    ugnOp P s = .next { applyGain P n (gainFormula n w0) s with stage := Stage.qb0 } := by
  rw [ugnOp, if_pos hu, hw, need_some, hn, needAll_some]

theorem ugnOp_of_isZero (hz : P.num.isZero (gainFormula n w0) = true) :
    ugnOp P s = .next
      { s with g := some (gainFormula n w0), status := { s.status with degen := true }, stage := Stage.qb0 } := by
  rw [ugnOp_of_ug_true hu hw hn, applyGain, if_pos hz, raiseDegenerateGainWarning]

/-- N[3] and N[4] are the ones read. -/
theorem ugnOp_of_not_isZero (hz : ¬P.num.isZero (gainFormula n w0) = true) :
    ugnOp P s = .next
      { s with
        g := some (gainFormula n w0)
        n := ⟨some (.div n.b0 (gainFormula n w0)), some (.div n.b1 (gainFormula n w0)),
          some (.div n.b2 (gainFormula n w0)), some n.a1, some n.a2⟩
        stage := Stage.qb0 } := by
  rw [ugnOp_of_ug_true hu hw hn, applyGain, if_neg hz, writeRescaled, hn, PerCoef.map]

end

/-- Settles O13: without the flag, with it and a gain of zero, with it and any other gain. -/
theorem ugnRescalesTheNumerator : Obligations.UgnRescalesTheNumerator := by
  refine ⟨fun s hu => ugnOp_of_ug_false Config.hw hu, ?_⟩
  rintro s w0 g n0 n1 n2 n3 n4 hu hw hn rfl
  have hn : s.n = PerCoef.map some ⟨n0, n1, n2, n3, n4⟩ := hn
  split
  · next hz => exact ugnOp_of_isZero (P := Config.hw) hu hw hn hz
  · next hz => exact ugnOp_of_not_isZero (P := Config.hw) hu hw hn hz

/-! ### The poles (R85) -/

/-- A root off the real axis and its conjugate have the product a2. -/
theorem normSq_of_root {a1 a2 : ℝ} {z : ℂ} (hz : z ^ 2 + (a1 : ℂ) * z + (a2 : ℂ) = 0) (him : z.im ≠ 0) :
    Complex.normSq z = a2 := by
  have hre : z.re * z.re - z.im * z.im + a1 * z.re + a2 = 0 := by simpa [pow_two] using congrArg Complex.re hz
  have hsum : z.re * z.im + z.im * z.re + a1 * z.im = 0 := by simpa [pow_two] using congrArg Complex.im hz
  have ha1 : a1 = -2 * z.re := mul_right_cancel₀ him (by linarith)
  rw [ha1] at hre
  rw [Complex.normSq_apply]
  linarith

/-- A real root is one of the two that the quadratic formula gives, and the discriminant is not negative. -/
theorem real_root_eq {a1 a2 x : ℝ} (hx : x ^ 2 + a1 * x + a2 = 0) :
    0 ≤ a1 ^ 2 - 4 * a2 ∧
    (x = (-a1 + Real.sqrt (a1 ^ 2 - 4 * a2)) / 2 ∨ x = (-a1 - Real.sqrt (a1 ^ 2 - 4 * a2)) / 2) := by
  have hd : a1 ^ 2 - 4 * a2 = (2 * x + a1) ^ 2 := by linarith
  rw [hd, Real.sqrt_sq_eq_abs]
  refine ⟨sq_nonneg _, ?_⟩
  obtain h | h := abs_choice (2 * x + a1)
  · exact .inl (by rw [h]; ring)
  · exact .inr (by rw [h]; ring)

/-- The check that R85 writes out is enough for both roots. -/
theorem polesInside_of_stabilityCheck {a1 a2 : ℝ} (h : StabilityCheck a1 a2) : PolesInside a1 a2 := by
  obtain ⟨hprod, -, hreal⟩ := h
  intro z hz
  by_cases him : z.im = 0
  · obtain ⟨x, rfl⟩ : ∃ x : ℝ, z = x := ⟨z.re, Complex.ext rfl him⟩
    obtain ⟨hd, hx⟩ := real_root_eq (a1 := a1) (a2 := a2) (x := x) (by exact_mod_cast hz)
    obtain ⟨hplus, hminus⟩ := hreal hd
    rw [Complex.norm_real, Real.norm_eq_abs]
    obtain rfl | rfl := hx
    · exact hplus
    · exact hminus
  · rw [← sq_lt_one_iff₀ (norm_nonneg z), ← Complex.normSq_eq_norm_sq, normSq_of_root hz him]
    exact (le_abs_self a2).trans_lt hprod

end Sys2Proof.Machine

namespace Sys2Proof.Machine.Exact

/-! ### A run in EXACT (R83, R84) -/

section
variable {port : Nat → ℝ} {x : FilterSpec} (hx : Valid port x)
include hx

theorem filterSpecOk_of_valid : filterSpecOk (num port) x.fs x.f0 x.q = true := (filterSpecOk_exact port _ _ _).mpr hx

/-- PIPELINE on a valid FilterSpec ends in DONE with the coefficients of UGN. -/
theorem ends_designed (t : RoundTie) (free : Nat → Word) {s : State} (hs : Stage.resting s.stage = true) :
    Ends port t free x s (designed (params port t free) x s.draws) (finalCoefs (num port) x.fs x.f0 x.q x.ug) :=
  ⟨by rw [pipelineWith_eq _ x hs, ended_of_valid (filterSpecOk_of_valid hx)], rfl, rfl⟩

end

/-- The gain is 1, so it does not degenerate. -/
theorem isZero_gainOf {port : Nat → ℝ} {fs f0 q : NumTerm} (hv : filterSpecOk (num port) fs f0 q = true) :
    (num port).isZero (gainOf fs f0 q) = false := by
  refine Bool.eq_false_iff.mpr fun h => ?_
  rw [num_isZero, val_gainOf hv] at h
  exact one_ne_zero h

/-- The five results depend on the values of the coefficients alone, not on their formulas. -/
theorem quantizeFive_congr {port : Nat → ℝ} {n n' : PerCoef NumTerm}
    (h : ∀ i, val port (n.get i) = val port (n'.get i)) (t : RoundTie) (free : Nat → Word) (d : Nat) :
    quantizeFive (params port t free) d n = quantizeFive (params port t free) d n' := by
  rw [quantizeFive_of_finite fun _ => rfl, quantizeFive_of_finite fun _ => rfl]
  refine PerCoef.ext_get fun i => ?_
  rw [PerCoef.get_map, PerCoef.get_map, quantize_exact, quantize_exact, h i]

/-- Settles O49: with and without UGN the coefficients are worth the same closed forms, and so are quantized alike. -/
theorem exactGainIsOne : Obligations.ExactGainIsOne := by
  intro port t free fs f0 q s hs hx
  have hv := filterSpecOk_of_valid hx
  have hn : ∀ i, val port ((finalCoefs (num port) fs f0 q true).get i)
      = val port ((finalCoefs (num port) fs f0 q false).get i) := fun i =>
    (val_finalCoefs hv true i).trans (val_finalCoefs hv false i).symm
  have hr := quantizeFive_congr hn t free s.draws
  exact ⟨_, _, _, _, gainOf fs f0 q, ends_designed hx t free hs,
    ends_designed (x := ⟨fs, f0, q, false⟩) hx t free hs, rfl, val_gainOf hv, isZero_gainOf hv, rfl, rfl, hn,
    congrArg (fun r => (wordsOf r).map some) hr, congrArg satOf hr⟩

/-! ### The bounds of the closed forms (R84) -/

theorem closedForm_bounds {w al : ℝ} (hw : 0 < Real.sin w) (hal : 0 < al) :
    0 < (closedForm w al).b0 ∧ (closedForm w al).b0 < 1 ∧ -2 < (closedForm w al).a1 ∧ (closedForm w al).a1 < 2 ∧
    -1 < (closedForm w al).a2 ∧ (closedForm w al).a2 < 1 := by
  have ha : 0 < 1 + al := by linarith
  obtain ⟨hcos, hcos'⟩ := abs_lt.mp (abs_cos_lt_one hw)
  obtain ⟨ha2, -, -⟩ := stabilityCheck_closedForm hw hal
  simp only [closedForm]
  refine ⟨by positivity, ?_, ?_, ?_, abs_lt.mp ha2⟩
  · rw [div_lt_one ha]
    linarith
  · rw [lt_div_iff₀ ha]
    linarith
  · rw [div_lt_iff₀ ha]
    linarith

/-- Settles O50: W0 and ALPHA are worth the given angle and alpha, and UGN leaves the closed forms. -/
theorem exactClosedForms : Obligations.ExactClosedForms := by
  intro port t free x s w al hs hx hw hal
  have hv := filterSpecOk_of_valid hx
  have hend := ends_designed hx t free hs
  obtain ⟨hfs, -, -, hq⟩ := hx
  obtain rfl : val port (w0Formula x.fs x.f0) = w := (val_w0Formula hfs.ne').trans hw.symm
  obtain rfl : val port (alphaFormula (w0Formula x.fs x.f0) x.q) = al := (val_alphaFormula _ hq.ne').trans hal.symm
  have hn := val_finalCoefs hv x.ug
  have hbounds := closedForm_bounds (sin_w0_pos hv) (alpha_pos hv)
  exact ⟨_, _, hend, hn .b0, hn .b1, hn .b2, hn .a1, hn .a2, hn .b0 ▸ hn .a1 ▸ hn .a2 ▸ hbounds⟩

/-- Settles O51: the check holds of a run's coefficients, and it is enough for the roots. -/
theorem exactFilterIsStable : Obligations.ExactFilterIsStable := by
  intro port t free x s hs hx
  have hcheck := stabilityCheck_finalCoefs (filterSpecOk_of_valid hx) x.ug
  exact ⟨_, _, ends_designed hx t free hs, hcheck, polesInside_of_stabilityCheck hcheck⟩

end Sys2Proof.Machine.Exact
end

section
/-! PROOFS. The statements of 42_quantize.md: what the quantize operations write, and, in every NUM, the range, the order,
the saturation and the error of the quantizer; in EXACT the words of a run. -/

namespace Sys2Proof.Machine

/-! ### Rounding, by thresholds (R14) -/

/-- What is nearer to `v` than one half is what `v` rounds to. -/
theorem roundTie_eq_of_abs_sub_lt {v : ℝ} {n : Int} (h : |(n : ℝ) - v| < 1 / 2) (t : RoundTie) :
    roundTie t (Scaled.ofReal v) = n := by
  have hlt : |(roundTie t (Scaled.ofReal v) : ℝ) - n| < 1 := calc
    |(roundTie t (Scaled.ofReal v) : ℝ) - n|
        ≤ |(roundTie t (Scaled.ofReal v) : ℝ) - v| + |v - n| := abs_sub_le _ _ _
    _ < 1 / 2 + 1 / 2 := add_lt_add_of_le_of_lt (abs_roundTie_sub_le t v) (abs_sub_comm v n ▸ h)
    _ = 1 := add_halves 1
  exact sub_eq_zero.mp (Int.abs_lt_one_iff.mp (by exact_mod_cast hlt))

theorem roundTie_intCast (t : RoundTie) (n : Int) : roundTie t (Scaled.ofReal n) = n :=
  roundTie_eq_of_abs_sub_lt (by simp) t

/-- The distance is one half at a tie only. -/
theorem abs_roundTie_sub_lt {v : ℝ} (h : Int.fract v ≠ 1 / 2) (t : RoundTie) :
    |(roundTie t (Scaled.ofReal v) : ℝ) - v| < 1 / 2 := by
  have hv : (⌊v⌋ : ℝ) + Int.fract v = v := Int.floor_add_fract v
  have h0 : 0 ≤ Int.fract v := Int.fract_nonneg v
  have h1 : Int.fract v < 1 := Int.fract_lt_one v
  rw [abs_lt]
  obtain ⟨hf, hr⟩ | ⟨hf, hr⟩ | ⟨hf, -⟩ := roundTie_cases t v
  · rw [hr]
    constructor <;> linarith
  · rw [hr]
    push_cast
    constructor <;> linarith
  · exact absurd hf h

/-- A real rounds above n when it lies above n + 1/2, or on it and ROUND_TIE goes up there. -/
theorem lt_roundTie_iff (t : RoundTie) (n : Int) (v : ℝ) :
    n < roundTie t (Scaled.ofReal v) ↔
      (n : ℝ) + 1 / 2 < v ∨ (v = n + 1 / 2 ∧ roundTie t ⟨n, .tie⟩ = n + 1) := by
  obtain ⟨hlo, hhi⟩ := abs_le.mp (abs_roundTie_sub_le t v)
  obtain hv | rfl | hv := lt_trichotomy v (n + 1 / 2)
  · have hr : roundTie t (Scaled.ofReal v) < n + 1 := by
      exact_mod_cast (by linarith : (roundTie t (Scaled.ofReal v) : ℝ) < n + 1)
    exact iff_of_false (by omega) (by rintro (h | ⟨h, -⟩) <;> linarith)
  · rw [ofReal_add_half]
    obtain h | h := roundTie_tie t n <;> simp [h]
  · exact iff_of_true (by exact_mod_cast (by linarith : (n : ℝ) < roundTie t (Scaled.ofReal v))) (.inl hv)

theorem roundTie_mono (t : RoundTie) {v w : ℝ} (h : v ≤ w) :
    roundTie t (Scaled.ofReal v) ≤ roundTie t (Scaled.ofReal w) := by
  refine le_of_forall_lt fun n hn => (lt_roundTie_iff t n w).mpr ?_
  obtain hv | ⟨rfl, ht⟩ := (lt_roundTie_iff t n v).mp hn
  · exact .inl (hv.trans_le h)
  · exact h.lt_or_eq.imp_right fun hw => ⟨hw.symm, ht⟩

/-- Above 32767 from the tie on, whatever ROUND_TIE is, because 32767 is odd. -/
theorem qmax_lt_roundTie_iff (t : RoundTie) (v : ℝ) :
    32767 < roundTie t (Scaled.ofReal v) ↔ (32767 : ℝ) + 1 / 2 ≤ v := by
  have htie : roundTie t ⟨32767, .tie⟩ = 32767 + 1 := by cases t <;> rfl
  rw [lt_roundTie_iff, le_iff_lt_or_eq, eq_comm (b := v)]
  simp [htie]

/-- Below -32768 beyond the tie, because -32768 is even, and on it under half_away. -/
theorem roundTie_lt_qmin_iff (t : RoundTie) (v : ℝ) :
    roundTie t (Scaled.ofReal v) < -32768 ↔ v < -32769 + 1 / 2 ∨ (v = -32769 + 1 / 2 ∧ t = .halfAway) := by
  have htie : roundTie t ⟨-32769, .tie⟩ = -32769 + 1 ↔ t ≠ .halfAway := by cases t <;> decide
  have hlt := lt_roundTie_iff t (-32769) v
  rw [htie, Int.cast_neg, Int.cast_ofNat] at hlt
  have hnot : roundTie t (Scaled.ofReal v) < -32768 ↔ ¬-32769 < roundTie t (Scaled.ofReal v) := by omega
  rw [hnot, hlt, not_or, not_lt, not_and, not_not]
  constructor
  · rintro ⟨hle, himp⟩
    exact hle.lt_or_eq.imp_right fun he => ⟨he, himp he⟩
  · rintro (h | ⟨rfl, h⟩)
    · exact ⟨h.le, fun he => absurd he h.ne⟩
    · exact ⟨le_rfl, fun _ => h⟩

/-- Rounding is odd but for half_up. -/
theorem roundTie_neg {t : RoundTie} (ht : t ≠ .halfUp) (v : ℝ) :
    roundTie t (Scaled.ofReal (-v)) = -roundTie t (Scaled.ofReal v) := by
  by_cases hf : Int.fract v = 1 / 2
  · obtain ⟨k, rfl⟩ : ∃ k : Int, v = k + 1 / 2 := ⟨⌊v⌋, by rw [← hf, Int.floor_add_fract]⟩
    have hneg : -((k : ℝ) + 1 / 2) = ((-k - 1 : Int) : ℝ) + 1 / 2 := by
      push_cast
      ring
    rw [hneg, ofReal_add_half, ofReal_add_half]
    cases t with
    | halfEven | halfAway =>
      simp only [roundTie]
      split <;> split <;> omega
    | halfUp => exact absurd rfl ht
  · refine roundTie_eq_of_abs_sub_lt ?_ t
    rw [Int.cast_neg, neg_sub_neg, abs_sub_comm]
    exact abs_roundTie_sub_lt hf t

/-! ### Clamping (R91, R94) -/

/-- The flag says that the clamp changed the integer. -/
theorem clampQ14_snd (r : Int) : (clampQ14 r).2 = decide ((clampQ14 r).1 ≠ r) := by
  rw [eq_comm, decide_not, clampQ14, bne, beq_eq_decide]

theorem clampQ14_snd_iff (r : Int) : (clampQ14 r).2 = true ↔ 32767 < r ∨ r < -32768 := by
  rw [clampQ14_snd, decide_eq_true_iff, (clampQ14_eq r).1]
  omega

theorem clampQ14_mono {r r' : Int} (h : r ≤ r') : (clampQ14 r).1 ≤ (clampQ14 r').1 := by
  rw [(clampQ14_eq r).1, (clampQ14_eq r').1]
  omega

theorem clampQ14_of_mem {r : Int} (hlo : -32768 ≤ r) (hhi : r ≤ 32767) : clampQ14 r = (r, false) := by
  obtain ⟨hq, hsat⟩ := clampQ14_eq r
  have hr : (clampQ14 r).1 = r := by omega
  exact Prod.ext hr (hsat.mpr hr)

theorem clampQ14_of_lt {r : Int} (h : r < -32768) : clampQ14 r = (-32768, true) := by
  have hq : (clampQ14 r).1 = -32768 := by rw [(clampQ14_eq r).1]; omega
  exact Prod.ext hq (by rw [clampQ14_snd, hq]; exact decide_eq_true h.ne')

theorem clampQ14_of_gt {r : Int} (h : 32767 < r) : clampQ14 r = (32767, true) := by
  have hq : (clampQ14 r).1 = 32767 := by rw [(clampQ14_eq r).1]; omega
  exact Prod.ext hq (by rw [clampQ14_snd, hq]; exact decide_eq_true h.ne)

/-! ### What the quantize operations write (R97 to R101) -/

theorem quantizeAfter_of_not_finite {P : Params} {x : NumTerm} (h : P.num.finite x = false) (d : Nat) :
    quantizeAfter P d x = ⟨dec16 (P.freeWord d), true, d + 1⟩ := if_neg (Bool.eq_false_iff.mp h)

/-- Settles O14: the five operations are one, and what quantizing the coefficient gives is the asked integer and flag. -/
theorem quantizeOperationsWriteTheirWord : Obligations.QuantizeOperationsWriteTheirWord := by
  intro i c next hi s x hx fin r q sat d hfin hr hq hsat hd
  have hres : quantizeAfter Config.hw s.draws x = ⟨q, sat, d⟩ := by
    cases fin with
    | true =>
      have hqr : quantize Config.hw x = (q, sat) := by
        have hqr : quantize Config.hw x = clampQ14 r := by rw [hr]; rfl
        have h1 : (clampQ14 r).1 = q := (clampQ14_eq r).1.trans hq.symm
        rw [hqr, hsat]
        exact Prod.ext h1 (by rw [clampQ14_snd, h1]; rfl)
      rw [quantizeAfter_of_finite hfin.symm, hqr, hd]
      rfl
    | false =>
      rw [quantizeAfter_of_not_finite hfin.symm, hq, hsat, hd]
      rfl
  rw [← execWith_hw, execWith_of_isQuantize hi, quantizeOp_eq next hx hres]
  rfl

/-- Settles O15: the parameters whose every free word is `w`. -/
theorem nonFiniteWordIsFree : Obligations.NonFiniteWordIsFree := by
  intro P i c next hi s x hx hfin w
  have hres : quantizeAfter { P with freeWord := fun _ => w } s.draws x = ⟨dec16 w, true, s.draws + 1⟩ :=
    quantizeAfter_of_not_finite (P := { P with freeWord := fun _ => w }) hfin s.draws
  refine ⟨fun _ => w, writeResult c x ⟨dec16 w, true, s.draws + 1⟩ next s, ?_, ?_, ?_⟩
  · rw [execWith_of_isQuantize hi, quantizeOp_eq next hx hres]
  · rw [writeResult_q14, PerCoef.get_set_same, enc16_dec16]
  · rw [writeResult_status, PerCoef.get_set_same]

/-! ### The quantizer on the reals (R94, R95) -/

theorem dec16_enc16_quantize (P : Params) (x : NumTerm) : dec16 (enc16 (quantize P x).1) = (quantize P x).1 :=
  dec16_enc16 (quantize_mem P x).1 (quantize_mem P x).2

section
variable {P : Params} {x : NumTerm} (hx : P.num.finite x = true)
include hx

theorem quantize_eq_of_not_sat (h : (quantize P x).2 = false) :
    (quantize P x).1 = roundTie P.tie (Scaled.ofReal (P.num.val x * 16384)) := by
  rw [quantize_of_finite hx] at h ⊢
  exact (clampQ14_eq _).2.mp h

/-- Where the flag is clear the error is that of rounding, times 2^-14. -/
theorem abs_quantize_error_eq (h : (quantize P x).2 = false) :
    |P.num.val x - (quantize P x).1 / 16384| =
      |(roundTie P.tie (Scaled.ofReal (P.num.val x * 16384)) : ℝ) - P.num.val x * 16384| / 16384 := by
  have hscale : ∀ r v : ℝ, v - r / 16384 = -(r - v * 16384) / 16384 := fun r v => by ring
  rw [quantize_eq_of_not_sat hx h, hscale, abs_div, abs_neg, abs_of_pos (by norm_num : (0 : ℝ) < 16384)]

/-- At most half an LSB (R95 (f)). -/
theorem abs_quantize_error_le (h : (quantize P x).2 = false) : |P.num.val x - (quantize P x).1 / 16384| ≤ 1 / 2 ^ 15 := by
  rw [abs_quantize_error_eq hx h]
  linarith [abs_roundTie_sub_le P.tie (P.num.val x * 16384)]

/-- Half an LSB at a tie only (R95 (f)). -/
theorem fract_of_abs_quantize_error_eq (h : (quantize P x).2 = false)
    (he : |P.num.val x - (quantize P x).1 / 16384| = 1 / 2 ^ 15) : Int.fract (P.num.val x * 16384) = 1 / 2 := by
  rw [abs_quantize_error_eq hx h] at he
  by_contra hf
  linarith [abs_roundTie_sub_lt hf P.tie]

/-- Where the flag is set the value lies at or beyond a threshold, and the integer is the end of the range there. -/
theorem quantize_of_sat (h : (quantize P x).2 = true) :
    ((32767 : ℝ) + 1 / 2 ≤ P.num.val x * 16384 ∧ (quantize P x).1 = 32767) ∨
    (P.num.val x * 16384 ≤ -32769 + 1 / 2 ∧ (quantize P x).1 = -32768) := by
  rw [quantize_of_finite hx] at h ⊢
  obtain hr | hr := (clampQ14_snd_iff _).mp h
  · exact .inl ⟨(qmax_lt_roundTie_iff _ _).mp hr, by rw [clampQ14_of_gt hr]⟩
  · refine .inr ⟨?_, by rw [clampQ14_of_lt hr]⟩
    obtain hlt | ⟨heq, -⟩ := (roundTie_lt_qmin_iff _ _).mp hr
    · exact hlt.le
    · exact heq.le

/-- Between two integers of the range, in units of 2^-14, `quantize` stays between them, and sets no flag. -/
theorem quantize_of_mem {m n : Int} (hm : -32768 ≤ m) (hn : n ≤ 32767) (hlo : (m : ℝ) ≤ P.num.val x * 16384)
    (hhi : P.num.val x * 16384 ≤ n) : m ≤ (quantize P x).1 ∧ (quantize P x).1 ≤ n ∧ (quantize P x).2 = false := by
  have h1 := roundTie_mono P.tie hlo
  have h2 := roundTie_mono P.tie hhi
  rw [roundTie_intCast] at h1 h2
  rw [quantize_of_finite hx, clampQ14_of_mem (hm.trans h1) (h2.trans hn)]
  exact ⟨h1, h2, rfl⟩

theorem quantize_of_grid {n : Int} (hlo : -32768 ≤ n) (hhi : n ≤ 32767) (hv : P.num.val x = n / 16384) :
    quantize P x = (n, false) := by
  have h : P.num.val x * 16384 = n := by rw [hv, div_mul_cancel₀ _ (by norm_num)]
  obtain ⟨h1, h2, hsat⟩ := quantize_of_mem hx hlo hhi h.ge h.le
  exact Prod.ext (le_antisymm h2 h1) hsat

/-- The flag by the real: the two thresholds of rounding, times 2^-14 (R94). -/
theorem quantize_sat_iff : (quantize P x).2 = true ↔
    1.999969482421875 ≤ P.num.val x ∨ P.num.val x < -2.000030517578125 ∨
      (P.num.val x = -2.000030517578125 ∧ P.tie = .halfAway) := by
  have h1 : 1.999969482421875 ≤ P.num.val x ↔ (32767 : ℝ) + 1 / 2 ≤ P.num.val x * 16384 := by
    constructor <;> intro h <;> linarith
  have h2 : P.num.val x < -2.000030517578125 ↔ P.num.val x * 16384 < -32769 + 1 / 2 := by
    constructor <;> intro h <;> linarith
  have h3 : P.num.val x = -2.000030517578125 ↔ P.num.val x * 16384 = -32769 + 1 / 2 := by
    constructor <;> intro h <;> linarith
  rw [quantize_of_finite hx, clampQ14_snd_iff, qmax_lt_roundTie_iff, roundTie_lt_qmin_iff, h1, h2, h3]

end

theorem Exact.val_dequantize (port : Nat → ℝ) (n : Int) : Exact.val port (dequantize n) = n / 16384 := by
  simp [dequantize, Exact.val, Config.scale]

/-- Settles O32: rounding and clamping are monotone, and an integer rounds to itself. -/
theorem quantizeRangeOrderAndGrid : Obligations.QuantizeRangeOrderAndGrid := by
  refine ⟨fun P x => ⟨(quantize_mem P x).1, (quantize_mem P x).2, fun hx => ?_⟩, fun P x y hx hy hxy => ?_,
    fun P n hlo hhi hf hv => quantize_of_grid hf hlo hhi hv,
    fun port t free n hlo hhi => quantize_of_grid (P := Exact.params port t free) rfl hlo hhi (Exact.val_dequantize port n),
    fun P x => quantize_of_isZero⟩
  · rw [quantize_of_finite hx, (clampQ14_eq _).1]
  · rw [quantize_of_finite hx, quantize_of_finite hy]
    exact clampQ14_mono (roundTie_mono P.tie (by gcongr))

/-- Settles O33: the flag compares the integer with the rounded value, which leaves the range at the two thresholds. -/
theorem saturationThresholds : Obligations.SaturationThresholds := by
  rintro P x v hx rfl
  refine ⟨?_, quantize_sat_iff hx⟩
  rw [quantize_of_finite hx, clampQ14_snd, decide_eq_true_iff]

/-- Settles O34: in units of 2^-14 the distance is that of rounding, and of the clamp where it changed the integer. -/
theorem quantizationError : Obligations.QuantizationError := by
  refine ⟨?_, fun port x q => by rw [qerr, Exact.val, Exact.val_dequantize]⟩
  rintro P x v e q sat hx hq rfl rfl
  obtain rfl : (quantize P x).1 = q := congrArg Prod.fst hq
  obtain rfl : (quantize P x).2 = sat := congrArg Prod.snd hq
  refine ⟨fun hs => ⟨abs_quantize_error_le hx hs, fract_of_abs_quantize_error_eq hx hs⟩, fun hv => ?_, fun hs => ?_⟩
  · cases hs : (quantize P x).2 with
    | false => exact (abs_quantize_error_le hx hs).trans (by norm_num)
    | true =>
      obtain ⟨hlo, hhi⟩ := abs_le.mp hv
      obtain ⟨h, hq⟩ | ⟨h, -⟩ := quantize_of_sat hx hs
      · rw [hq, abs_le]
        push_cast
        constructor <;> linarith
      · exact absurd h (by linarith)
  · obtain ⟨h, hq⟩ | ⟨h, hq⟩ := quantize_of_sat hx hs
    · exact .inl ⟨by linarith, by rw [hq]; norm_num⟩
    · exact .inr ⟨by linarith, by rw [hq]; norm_num⟩

/-- Settles O35: rounding is odd but for half_up, whose ties 1/2 and -1/2 go up to 1 and 0; 2.0 is clamped to 32767 where -2.0
is on the grid. -/
theorem quantizeOddSymmetry : Obligations.QuantizeOddSymmetry := by
  refine ⟨fun P x y ht hx hy hxy hsx hsy => ?_, fun P x y ht hx hy hvx hvy => ?_, fun P => ⟨?_, ?_⟩⟩
  · rw [quantize_eq_of_not_sat hx hsx, quantize_eq_of_not_sat hy hsy, hxy, neg_mul, roundTie_neg ht]
  · have h1 : P.num.val x * 16384 = ((0 : Int) : ℝ) + 1 / 2 := by rw [hvx]; norm_num
    have h2 : P.num.val y * 16384 = ((-1 : Int) : ℝ) + 1 / 2 := by rw [hvy]; norm_num
    rw [quantize_of_finite hx, quantize_of_finite hy, h1, h2, ofReal_add_half, ofReal_add_half, ht]
    exact ⟨rfl, rfl⟩
  · obtain ⟨hf, hv⟩ := P.num.ofInt_exact 2 (by decide) (by decide)
    have h : P.num.val (NumTerm.ofInt 2) * 16384 = (32768 : Int) := by rw [hv]; norm_num
    rw [quantize_of_finite hf, h, roundTie_intCast]
    rfl
  · obtain ⟨hf, hv⟩ := P.num.ofInt_exact (-2) (by decide) (by decide)
    rw [quantize_of_grid hf (n := -32768) (by decide) (by decide) (by rw [hv]; norm_num)]

end Sys2Proof.Machine

namespace Sys2Proof.Machine.Exact

/-! ### The words of a run in EXACT (R102) -/

/-- No word is drawn: each word and flag of a run is what quantizing its coefficient gives. -/
theorem Ends.words {port : Nat → ℝ} {t : RoundTie} {free : Nat → Word} {x : FilterSpec} {s u : State} {n : PerCoef NumTerm}
    (h : Ends port t free x s u n) (hs : Stage.resting s.stage = true) :
    u.q14 = (n.map fun y => enc16 (quantize (params port t free) y).1).map some ∧
    u.status.sat = n.map fun y => (quantize (params port t free) y).2 := by
  obtain ⟨hrun, hdone, hn⟩ := h
  obtain ⟨-, rfl⟩ := pipelineWith_done hs hrun hdone
  obtain rfl := coefs_of_designed _ hn
  have hr := quantizeFive_of_finite (P := params port t free) (n := finalCoefs (num port) x.fs x.f0 x.q x.ug)
    (fun _ => rfl) s.draws
  exact ⟨congrArg (fun r => (wordsOf r).map some) hr, congrArg satOf hr⟩

/-- A coefficient between the integers l and h gives a word between them, in units of 2^-14, and no flag. -/
theorem word_mem_of_val_mem {port : Nat → ℝ} {y : NumTerm} (t : RoundTie) (free : Nat → Word) {l h : Int} (hl : -2 ≤ l)
    (hh : h ≤ 1) (hlo : (l : ℝ) ≤ val port y) (hhi : val port y ≤ h) :
    16384 * l ≤ dec16 (enc16 (quantize (params port t free) y).1) ∧
    dec16 (enc16 (quantize (params port t free) y).1) ≤ 16384 * h ∧ (quantize (params port t free) y).2 = false := by
  rw [dec16_enc16_quantize]
  refine quantize_of_mem (P := params port t free) rfl (by omega) (by omega) ?_ ?_
  · rw [params_num, num_val]
    push_cast
    linarith
  · rw [params_num, num_val]
    push_cast
    linarith

/-- Settles O52: the closed forms of b0, b2 and a2 lie within 1 of zero, b1 is zero, and a1 lies above -2. -/
theorem exactWordRanges : Obligations.ExactWordRanges := by
  intro port t free x s w al hs hx hw hal
  obtain ⟨u, n, hend, hb0, hb1, hb2, ha1, -, hb0_pos, hb0_lt, ha1_gt, -, ha2_gt, ha2_lt⟩ :=
    exactClosedForms port t free x s w al hs hx hw hal
  obtain ⟨hq14, hsat⟩ := hend.words hs
  have hneg : val port n.b2 = -val port n.b0 := by rw [hb2, hb0, neg_div]
  obtain ⟨l0, h0, s0⟩ := word_mem_of_val_mem (y := n.b0) t free (l := 0) (h := 1) (by decide) (by decide)
    (by push_cast; linarith) (by push_cast; linarith)
  obtain ⟨l2, h2, s2⟩ := word_mem_of_val_mem (y := n.b2) t free (l := -1) (h := 0) (by decide) (by decide)
    (by push_cast; linarith) (by push_cast; linarith)
  obtain ⟨l4, h4, s4⟩ := word_mem_of_val_mem (y := n.a2) t free (l := -1) (h := 1) (by decide) (by decide)
    (by push_cast; linarith) (by push_cast; linarith)
  have h1 : quantize (params port t free) n.b1 = (0, false) := quantize_of_isZero ((num_isZero port _).mpr hb1)
  have ha1_sat : (quantize (params port t free) n.a1).2 = true ↔ 1.999969482421875 ≤ val port n.a1 := by
    refine (quantize_sat_iff (P := params port t free) rfl).trans (or_iff_left ?_)
    rw [params_num, num_val]
    rintro (h | ⟨h, -⟩) <;> linarith
  refine ⟨u, n, n.map fun y => enc16 (quantize (params port t free) y).1, hend, hq14, ?_⟩
  rw [hsat, ← ha1]
  exact ⟨l0, h0, by rw [PerCoef.map, h1]; rfl, l2, h2, (dec16_mem _).1, (dec16_mem _).2, l4, h4,
    s0, congrArg Prod.snd h1, s2, s4, ha1_sat⟩

end Sys2Proof.Machine.Exact
end

section
/-! PROOFS. The statements of 43_emit.md: what EMIT writes, the lines of TEXT, and reading a literal back. -/

namespace Sys2Proof.Machine

/-! ### What EMIT writes (R105) -/

/-- Settles O16: the writes of EMIT are `endRun`, and `outputText` is the text of R105. -/
theorem emitWritesTheText : Obligations.EmitWritesTheText := by
  intro s n e q hn hq he
  rw [← execWith_hw]
  exact emitOp_eq hn hq he

/-! ### Bytes that stand inside a line -/

/-- Every byte is ASCII and none is a line feed: what stands before the line feed of a line. -/
def oneLine (l : List Byte) : Bool := l.all fun b => b != 0x0A#8 && b.toNat < 128

theorem oneLine_iff {l : List Byte} : oneLine l = true ↔ ∀ b ∈ l, b ≠ 0x0A#8 ∧ b.toNat < 128 := by
  simp [oneLine]

@[simp] theorem oneLine_append (l l' : List Byte) : oneLine (l ++ l') = (oneLine l && oneLine l') := List.all_append

theorem oneLine_digit {d : Nat} (h : d < 10) : oneLine [digit d] = true := by
  have hcode := toNat_digit h
  have hfeed : digit d ≠ 0x0A#8 := by bv_omega
  exact oneLine_iff.mpr (List.forall_mem_singleton.mpr ⟨hfeed, by omega⟩)

theorem oneLine_decFuel (fuel m : Nat) : oneLine (decFuel fuel m) = true := by
  induction fuel generalizing m with
  | zero => rfl
  | succ fuel ih =>
    rw [decFuel]
    split
    · next hm => exact oneLine_digit hm
    · rw [oneLine_append, ih, oneLine_digit (m.mod_lt (by decide)), Bool.and_true]

@[simp] theorem oneLine_dec (m : Nat) : oneLine (dec m) = true := oneLine_decFuel _ m

@[simp] theorem oneLine_decPadded (d m : Nat) : oneLine (decPadded d m) = true := by
  induction d generalizing m with
  | zero => rfl
  | succ d ih => rw [decPadded, oneLine_append, ih, oneLine_digit (m.mod_lt (by decide)), Bool.and_true]

@[simp] theorem oneLine_fmtInt (m : Int) (d : Nat) : oneLine (fmtInt m d) = true := by
  have hsign : oneLine (if m < 0 then ascii "-" else ascii "+") = true := by split <;> decide
  simp only [fmtInt, oneLine_append, hsign, oneLine_dec, oneLine_decPadded, Bool.and_true, Bool.true_and]
  decide

@[simp] theorem oneLine_fmt (P : Params) (x : NumTerm) (d : Nat) : oneLine (fmt P x d) = true := by
  rw [fmt]
  split
  · exact oneLine_fmtInt _ d
  · decide

@[simp] theorem oneLine_lit (v : Int) : oneLine (lit v) = true := by
  rw [lit]
  split
  · rw [oneLine_append, oneLine_dec]
    decide
  · rw [oneLine_append, oneLine_dec]
    decide

@[simp] theorem oneLine_coefName (i : Coef) : oneLine (coefName i) = true := by cases i <;> decide

@[simp] theorem oneLine_flagChar (b : Bool) : oneLine (flagChar b) = true := by cases b <;> decide

/-! ### The lines of TEXT (R59, R61, R62, R105) -/

/-- `t` is ASCII and has `k` line feeds, one of which ends it. -/
structure AsciiLines (k : Nat) (t : List Byte) : Prop where
  count : t.count 0x0A#8 = k
  getLast? : t.getLast? = some 0x0A#8
  lt_128 : ∀ b ∈ t, b.toNat < 128

namespace AsciiLines

theorem append {k k' : Nat} {t t' : List Byte} (h : AsciiLines k t) (h' : AsciiLines k' t') :
    AsciiLines (k + k') (t ++ t') where
  count := by rw [List.count_append, h.count, h'.count]
  getLast? := by rw [List.getLast?_append, h'.getLast?, Option.some_or]
  lt_128 := List.forall_mem_append.mpr ⟨h.lt_128, h'.lt_128⟩

theorem of_oneLine {l : List Byte} (h : oneLine l = true) : AsciiLines 1 (l ++ lineFeed) where
  count := by
    have hnone : l.count 0x0A#8 = 0 := List.count_eq_zero.mpr fun hmem => (oneLine_iff.mp h _ hmem).1 rfl
    rw [List.count_append, hnone]
    rfl
  getLast? := List.getLast?_concat
  lt_128 := List.forall_mem_append.mpr ⟨fun b hb => (oneLine_iff.mp h b hb).2, by decide⟩

end AsciiLines

theorem asciiLines_humanLine (P : Params) (n : PerCoef NumTerm) : AsciiLines 1 (humanLine P n) := by
  refine .of_oneLine ?_
  simp only [oneLine_append, oneLine_fmt, Bool.and_true]
  decide

theorem asciiLines_paramLine (i : Coef) (w : Word) : AsciiLines 1 (paramLine i w) := by
  refine .of_oneLine ?_
  simp only [oneLine_append, oneLine_coefName, oneLine_lit, Bool.and_true]
  decide

theorem asciiLines_diagLine (P : Params) (i : Coef) (e : NumTerm) (sat : Bool) : AsciiLines 1 (diagLine P i e sat) := by
  refine .of_oneLine ?_
  simp only [oneLine_append, oneLine_coefName, oneLine_fmt, oneLine_flagChar, Bool.and_true, Bool.true_and]
  decide

theorem asciiLines_degenLine (degen : Bool) : AsciiLines 1 (degenLine degen) :=
  .of_oneLine (by rw [oneLine_append, oneLine_flagChar]; decide)

theorem asciiLines_paramsText (q : PerCoef Word) : AsciiLines 5 (paramsText q) :=
  ((((asciiLines_paramLine .b0 q.b0).append (asciiLines_paramLine .b1 q.b1)).append
    (asciiLines_paramLine .b2 q.b2)).append (asciiLines_paramLine .a1 q.a1)).append (asciiLines_paramLine .a2 q.a2)

theorem asciiLines_diagText (P : Params) (e : PerCoef NumTerm) (sat : PerCoef Bool) (degen : Bool) :
    AsciiLines 6 (diagText P e sat degen) :=
  (((((asciiLines_diagLine P .b0 e.b0 sat.b0).append (asciiLines_diagLine P .b1 e.b1 sat.b1)).append
    (asciiLines_diagLine P .b2 e.b2 sat.b2)).append (asciiLines_diagLine P .a1 e.a1 sat.a1)).append
    (asciiLines_diagLine P .a2 e.a2 sat.a2)).append (asciiLines_degenLine degen)

/-- Settles O36: one HUMANLINE, five PARAMLINEs and six lines of TEXT.diag, each with its line feed at its end alone. -/
theorem textIsTwelveAsciiLines : Obligations.TextIsTwelveAsciiLines := by
  intro P n e q sat degen
  obtain ⟨hcount, hlast, hascii⟩ : AsciiLines 12 (outputText P n q e sat degen) :=
    ((asciiLines_humanLine P n).append (asciiLines_paramsText q)).append (asciiLines_diagText P e sat degen)
  exact ⟨hcount, hlast, hascii⟩

/-! ### Reading a literal back (R107) -/

theorem readLit_minus_append {l : List Byte} {m : Nat} (h : readDigits 0 l = some m) :
    readLit (ascii "-16'sd" ++ l) = some (-(m : Int)) := by
  have hlen : (ascii "-16'sd").length = 6 := by decide
  rw [readLit, List.take_left' hlen, List.drop_left' hlen, if_pos rfl, h]
  rfl

/-- A literal without a minus is not taken for one with it: its first byte is `1`. -/
theorem readLit_append {l : List Byte} {m : Nat} (h : readDigits 0 l = some m) :
    readLit (ascii "16'sd" ++ l) = some (m : Int) := by
  have hlen : (ascii "16'sd").length = 5 := by decide
  have hminus : (ascii "16'sd" ++ l).take 6 ≠ ascii "-16'sd" := by
    intro hsame
    have hfirst : some 0x31#8 = some 0x2D#8 := congrArg List.head? hsame
    exact absurd hfirst (by decide)
  rw [readLit, if_neg hminus, List.take_left' hlen, List.drop_left' hlen, if_pos rfl, h]
  rfl

theorem readLit_lit (v : Int) : readLit (lit v) = some v := by
  rw [lit]
  split
  · next hneg => rw [readLit_minus_append (readDigits_dec _), Int.ofNat_natAbs_of_nonpos hneg.le, neg_neg]
  · next hnonneg => rw [readLit_append (readDigits_dec _), Int.natAbs_of_nonneg (not_lt.mp hnonneg)]

/-- Settles O37: the literal of every integer reads back, by the digits of its magnitude. -/
theorem literalsReadBack : Obligations.LiteralsReadBack := fun p => readLit_lit (dec16 p)

end Sys2Proof.Machine
end

section
/-! PROOFS. The statements of 44_host_interface.md: the sequencer's step table, START, the host's reads, and where a run
ends. -/

namespace Sys2Proof.Machine

/-! ### START (R117, R118) -/

theorem resting_iff {c : StageCode} : Stage.resting c = true ↔ c = Stage.idle ∨ c = Stage.done ∨ c = Stage.err := by
  simp [Stage.resting, or_assoc]

theorem execStart_of_resting {s : State} (h : Stage.resting s.stage = true) : execStart s = .next (beginRun s) := if_pos h

theorem execStart_of_not_resting {s : State} (h : Stage.resting s.stage = false) : execStart s = .next s :=
  if_neg (Bool.eq_false_iff.mp h)

/-- Settles O18: the writes of START are `beginRun`. -/
theorem startBeginsARun : Obligations.StartBeginsARun := by
  intro s hs
  have hst : statusWord Status.running = 0x0001#16 := by decide
  exact ⟨beginRun s, execStart_of_resting (resting_iff.mpr hs), by simp [hst]⟩

/-- Settles O19: any other stage is no resting one, and there START keeps the state. -/
theorem startIsIgnoredDuringARun : Obligations.StartIsIgnoredDuringARun := fun _ hidle hdone herr =>
  execStart_of_not_resting (resting_eq_false.mpr ⟨hidle, hdone, herr⟩)

/-! ### READ (R119, R120) -/

section
variable {α : Type} {s : State} {r : Option α}

/-- In DONE a data port carries its register. -/
theorem dataPort_of_some (hs : s.stage = Stage.done) (f : α → PortValue) {x : α} (hr : r = some x) :
    dataPort s (r.map f) = some (f x) := by
  rw [dataPort, if_pos hs, hr, Option.map_some]

/-- A data port whose register is unwritten carries nothing, in any stage. -/
theorem dataPort_of_none (f : α → PortValue) (hr : r = none) : dataPort s (r.map f) = none := by
  rw [dataPort, hr, Option.map_none, ite_self]

theorem readPort_of_not_done {p : Port} (hp : p.isData = true) (hs : s.stage ≠ Stage.done) : readPort s p = none := by
  cases p with
  | status | errcause | stage => cases hp
  | _ => exact if_neg hs

theorem execRead_of_undefined {p : Port} (h : readPort s p = none) : execRead p s = .fault (.portUndefined p) := by
  rw [execRead, h]

end

/-- Settles O20: the ports by their registers, and a read turn by what its port carries. -/
theorem hostReads : Obligations.HostReads := by
  refine ⟨fun s => ⟨rfl, rfl, rfl⟩, fun s hs => ?_, fun s p => readPort_of_not_done, fun s => ?_, fun s p rest ht => ?_⟩
  · exact ⟨fun i w => dataPort_of_some hs .word, fun i x => dataPort_of_some hs .num,
      fun i x => dataPort_of_some hs .num, fun x => dataPort_of_some hs .num,
      fun htext => dataPort_of_some hs .text (if_neg htext)⟩
  · exact ⟨fun i => dataPort_of_none .word, fun i => dataPort_of_none .num, fun i => dataPort_of_none .num,
      dataPort_of_none .num, fun htext => dataPort_of_none .text (if_pos htext)⟩
  · rw [step, turnStep_of_read ht, ← readPort_withTurns s rest p]
    exact ⟨fun v hv => execRead_of_defined (by simp [hv]), execRead_of_undefined⟩

/-! ### The step table (R115) -/

theorem stageMeaning_of_resting : ∀ {c : StageCode}, Stage.resting c = true → stageMeaning c = .resting := by
  decide

theorem sequencerTurn_of_resting {run : Instr → State → Res} {s : State} (h : Stage.resting s.stage = true) :
    sequencerTurn run s = .next s := by
  rw [sequencerTurn, stageMeaning_of_resting h]

section
variable {P : Params} {s t : State}

/-- The sequencer's turn in an operation's code is a run of that operation, on the state without the turn taken. -/
theorem SequencersTurn.execWith_next (hq : SequencersTurn s) (h : stepWith P s = .next t) {i : Instr}
    (hm : stageMeaning s.stage = .op i) : ∃ rest, execWith P i { s with turns := rest } = .next t := by
  obtain ⟨rest, h⟩ := hq.next h
  exact ⟨rest, (sequencerTurn_op (s := { s with turns := rest }) hm).symm.trans h⟩

/-- From the code of an operation with one successor the sequencer goes to that one. -/
theorem SequencersTurn.stage_eq (hq : SequencersTurn s) (h : stepWith P s = .next t) {i : Instr} {a b : StageCode}
    (hm : stageMeaning a = .op i) (hb : successors i = [b]) (hs : s.stage = a) : t.stage = b := by
  subst hs
  obtain ⟨rest, hrun⟩ := hq.execWith_next h hm
  obtain ⟨hi, -⟩ := stageMeaning_op hm
  have hmem : t.stage ∈ successors i := (execWith_effect hi hrun).stage
  rwa [hb, List.mem_singleton] at hmem

/-- The two successors of CHK (R70). -/
theorem chkOp_stage {fs f0 q : NumTerm} (hfs : s.fs = some fs) (hf0 : s.f0 = some f0) (hq : s.qf = some q)
    (h : chkOp P s = .next t) : t.stage = if filterSpecOk P.num fs f0 q then Stage.drv else Stage.err := by
  cases hv : filterSpecOk P.num fs f0 q with
  | true =>
    cases (chkOp_of_valid hfs hf0 hq hv).symm.trans h
    rfl
  | false =>
    cases (chkOp_of_invalid hfs hf0 hq hv).symm.trans h
    rfl

end

/-- Settles O6: a stage operation leaves one of its successors, of which CHK alone has two. -/
theorem sequencerFollowsTheTable : Obligations.SequencerFollowsTheTable := by
  refine ⟨fun s t hq h => ?_, fun s hs => ?_⟩
  · rw [← stepWith_hw] at h
    refine ⟨fun hs fs f0 q hfs hf0 hqf => ?_, hq.stage_eq h stageMeaning_drv rfl, hq.stage_eq h stageMeaning_nrm rfl,
      hq.stage_eq h stageMeaning_ugn rfl, hq.stage_eq h stageMeaning_qb0 rfl, hq.stage_eq h stageMeaning_qb1 rfl,
      hq.stage_eq h stageMeaning_qb2 rfl, hq.stage_eq h stageMeaning_qa1 rfl, hq.stage_eq h stageMeaning_qa2 rfl,
      hq.stage_eq h stageMeaning_emit rfl⟩
    obtain ⟨rest, hchk⟩ := hq.execWith_next h (hs ▸ stageMeaning_chk)
    exact chkOp_stage (s := { s with turns := rest }) hfs hf0 hqf hchk
  · have hr : Stage.resting s.stage = true := resting_iff.mpr hs
    exact ⟨fun ht => (turnStep_of_nil ht).trans (sequencerTurn_of_resting hr),
      fun rest ht => (turnStep_of_seq ht).trans (sequencerTurn_of_resting hr)⟩

/-! ### The end of a run (R121, R124) -/

section
variable {P : Params} {s t : State}

theorem ugnOp_turns (h : ugnOp P s = .next t) : t.turns = s.turns := by
  obtain ⟨-, rfl⟩ | ⟨-, w0, n, -, -, rfl⟩ := ugnOp_next h
  · rfl
  · obtain ⟨-, ha⟩ | ⟨-, ha⟩ := applyGain_cases P n (gainFormula n w0) s
    · simp [ha]
    · simp [ha]

theorem quantizeOp_turns {c : Coef} {next : StageCode} (h : quantizeOp P c next s = .next t) : t.turns = s.turns := by
  obtain ⟨_, -, ⟨-, rfl⟩ | ⟨-, rfl⟩⟩ := quantizeOp_next h
  · rfl
  · rfl

/-- A stage operation leaves the turns to come alone. -/
theorem execWith_turns {i : Instr} (hi : i.format = .stage) (h : execWith P i s = .next t) : t.turns = s.turns := by
  cases i with
  | chk =>
    obtain ⟨_, _, _, -, -, -, ⟨-, rfl⟩ | ⟨-, rfl⟩⟩ := chkOp_next h
    · rfl
    · rfl
  | drv =>
    obtain ⟨_, _, _, -, -, -, -, rfl⟩ := drvOp_next h
    rfl
  | nrm =>
    obtain ⟨_, _, _, _, _, _, -, -, -, -, -, -, rfl⟩ := nrmOp_next h
    rfl
  | ugn => exact ugnOp_turns h
  | qb0 | qb1 | qb2 | qa1 | qa2 => exact quantizeOp_turns h
  | emit =>
    obtain ⟨_, _, _, -, -, -, rfl⟩ := emitOp_next h
    rfl
  | reset | start => cases hi

end

/-- How many more operations a run in code `c` can have. -/
def stepsLeft (c : StageCode) : Nat := if Stage.resting c then 0 else 11 - stageRank c

theorem stepsLeft_le_ten : ∀ c : StageCode, stepsLeft c ≤ 10 := by
  decide

theorem resting_of_stepsLeft : ∀ {c : StageCode}, Stage.reserved c = false → stepsLeft c = 0 → Stage.resting c = true := by
  decide

theorem stepsLeft_successors {i : Instr} (hi : i.format = .stage) :
    ∀ c ∈ successors i, stepsLeft c < stepsLeft ((encodeWord i).setWidth 4) := by
  cases i with
  | reset | start => cases hi
  | _ => decide

/-- From the invariant a run rests after as many steps as are left: it does not stop, and each operation leaves fewer. -/
theorem runWith_rests_of_inv {P : Params} {k : Nat} {s : State} (h : Inv P s) (ht : s.turns = [])
    (hk : stepsLeft s.stage ≤ k) : ∃ t, runWith P k s = .next t ∧ Stage.resting t.stage = true := by
  induction k generalizing s with
  | zero => exact ⟨s, rfl, resting_of_stepsLeft h.1.defined (Nat.le_zero.mp hk)⟩
  | succ k ih =>
    obtain ⟨t, hturn⟩ := h.sequencerTurn_next
    obtain ⟨i, hm, hrun⟩ | ⟨hr, -⟩ := sequencerTurn_next hturn
    · obtain ⟨hi, hcode⟩ := stageMeaning_op hm
      have hfewer : stepsLeft t.stage < stepsLeft s.stage :=
        hcode ▸ stepsLeft_successors hi t.stage (execWith_effect hi hrun).stage
      exact runWith_op ht hm hrun
        (ih (h.of_sequencerTurn hturn) ((execWith_turns hi hrun).trans ht) (by omega))
    · exact ⟨s, runWith_resting ht (stageMeaning_of_resting hr) _, hr⟩

/-- Settles O42: no code has more than ten steps left. -/
theorem everyRunEnds : Obligations.EveryRunEnds := fun s h ht => runWith_rests_of_inv h ht (stepsLeft_le_ten s.stage)

/-- Settles O45: the run ends in the state `rejected`, which CHK leaves of the one after START. -/
theorem pipelineRejectsAnInvalidFilterSpec : Obligations.PipelineRejectsAnInvalidFilterSpec := by
  intro P x s hs hv
  have hrun : pipelineWith P x s = .next (rejected P x s.draws) := by rw [pipelineWith_eq P x hs, ended_of_invalid hv]
  have hcause : causeOf P.num x.fs x.f0 x.q ≠ 0#4 := mt (causeOf_eq_zero P.num x.fs x.f0 x.q).mp (Bool.eq_false_iff.mp hv)
  exact ⟨rejected P x s.draws, hrun, rfl, rfl, rfl, rfl, rfl, hcause, rfl, rfl, rfl, rfl, rfl, rfl, rfl, rfl,
    PerCoef.get_all none, rfl, PerCoef.get_all none, PerCoef.get_all none, rfl⟩

end Sys2Proof.Machine
end

section
/-! PROOFS. The statement of 60_exceptions.md: what the words of a run in EXACT stand for where their flags are clear. -/

namespace Sys2Proof.Machine.Exact

/-! ### The word and the coefficient (R142) -/

section
variable {port : Nat → ℝ} {t : RoundTie} {free : Nat → Word} {x : FilterSpec} {s u : State} {n : PerCoef NumTerm}
  (h : Ends port t free x s u n) (hs : Stage.resting s.stage = true)
include h hs

/-- No flag but A1's can be set (R102). -/
theorem Ends.sat_eq_false (hx : Valid port x) {i : Coef} (hi : i ≠ .a1) : u.status.sat.get i = false := by
  obtain ⟨u', _, _, hend, -, -, -, -, -, -, -, -, -, -, hb0, hb1, hb2, ha2, -⟩ :=
    exactWordRanges port t free x s _ _ hs hx rfl rfl
  obtain rfl : u' = u := Host.Outcome.next.inj (hend.1.symm.trans h.1)
  cases i with
  | b0 => exact hb0
  | b1 => exact hb1
  | b2 => exact hb2
  | a1 => exact absurd rfl hi
  | a2 => exact ha2

/-- A coefficient whose flag is clear is within half an LSB of what its word stands for (R95 (f)). -/
theorem Ends.abs_val_sub_word_le {i : Coef} (hi : u.status.sat.get i = false) :
    |val port (n.get i) - (dec16 (enc16 (quantize (params port t free) (n.get i)).1) : ℝ) / 16384| ≤ 1 / 2 ^ 15 := by
  rw [(h.words hs).2, PerCoef.get_map] at hi
  rw [dec16_enc16_quantize]
  exact abs_quantize_error_le (P := params port t free) rfl hi

/-- The gain at the angle that W0 holds is 1, whether or not UGN has divided by it (R83). -/
theorem Ends.gain_eq_one :
    ∃ w0, u.w0 = some w0 ∧
      gain (val port n.b0) (val port n.b1) (val port n.b2) (val port n.a1) (val port n.a2) (val port w0) = 1 := by
  obtain ⟨hrun, hdone, hn⟩ := h
  obtain ⟨hv, rfl⟩ := pipelineWith_done hs hrun hdone
  obtain rfl := coefs_of_designed _ hn
  exact ⟨w0Formula x.fs x.f0, rfl, Exact.gain_eq_one hv (val_finalCoefs hv x.ug)⟩

end

/-- Settles O53: a word misses its coefficient by more than half an LSB only with its flag set, which only A1's can be. -/
theorem exactWordsAreFaithful : Obligations.ExactWordsAreFaithful := by
  intro port t free x s hs hx
  have hend := ends_designed hx t free hs
  obtain ⟨w0, hw0, hgain⟩ := hend.gain_eq_one hs
  refine ⟨_, _, _, w0, hend, (hend.words hs).1, hw0, fun i => ?_, hgain⟩
  rw [PerCoef.get_map]
  by_cases hi : i = .a1
  · subst hi
    cases hsat : (designed (params port t free) x s.draws).status.sat.a1 with
    | false => exact .inl (hend.abs_val_sub_word_le hs hsat)
    | true => exact .inr ⟨rfl, rfl⟩
  · exact .inl (hend.abs_val_sub_word_le hs (hend.sat_eq_false hs hx hi))

end Sys2Proof.Machine.Exact
end

section
/-! PROOFS. What RESET and START leave of what is no register of the block. -/

namespace Sys2Proof.Machine

/-- RESET answers the reset registers (R116). -/
theorem execReset_next {s t : State} (h : execReset s = .next t) : t = resetRegisters s :=
  (Host.Outcome.next.inj h).symm

/-- Settles O26: `resetRegisters` and `beginRun` keep what is no register, and an ignored START keeps the whole state. -/
theorem hostOperationsKeepWhatIsOutside : Obligations.HostOperationsKeepWhatIsOutside := by
  rintro i s t (rfl | rfl) h
  · obtain rfl := execReset_next h
    exact ⟨⟨resetRegisters_wires s, resetRegisters_turns s⟩, resetRegisters_draws s⟩
  · obtain ⟨-, rfl⟩ | ⟨-, rfl⟩ := execStart_next h
    · exact ⟨⟨beginRun_wires s, beginRun_turns s⟩, beginRun_draws s⟩
    · exact ⟨⟨rfl, rfl⟩, rfl⟩

end Sys2Proof.Machine
end
